-- ==== Sys2Proof/Word.lean ====
section
/-! DEFINITION. The words the manual treats as bits: link bytes, time-counter values and the
20-bit statistics counters. Quantities the manual counts or measures are `Nat`. -/

namespace Sys2Proof

/-- One byte on the panel link. -/
abbrev Byte := BitVec 8

/-- A value of the 32-bit millisecond time counter (R1). -/
abbrev Time := BitVec 32

/-- A statistics counter: 20 bits, 1,048,575 followed by 0 (section 10.5). -/
abbrev Count := BitVec 20

end Sys2Proof
end

