-- ==== Sys2Proof/Syntax.lean ====
section
/-! DEFINITION. The commands of the FP-716: one constructor per row of spec/opcode_table.json.
A request command is one whole, undamaged frame completing at the receiver: it carries the TAG and
the payload bytes as they stand in the frame (for TWRITE, after the table id, which the row
fixes). An event command carries the entry it concerns. -/

namespace Sys2Proof

/-- The two conditions the loop supervision of a detector channel reports (section 2.5). -/
inductive LoopFault
  | openLoop
  | shortLoop
deriving DecidableEq, Repr

/-- The two conditions the load supervision of a siren reports (R165). -/
inductive LoadFault
  | openLoad
  | shortLoad
deriving DecidableEq, Repr

/-- The steps of the part, in the order of the opcode table. -/
inductive Instr
  -- resets and the load of the start-up precedence
  | powerOn (strap : Bool)
  | restart (strap : Bool)
  | loadCompletion
  -- the panel link
  | lineBreak
  | framingError
  | badLengthByte (b : Byte)
  | gapDeadline
  | frameDiscard (body : List Byte) (crc : Byte)
  | unknownRequest (kind tag : Byte) (payload : List Byte)
  | replySent
  -- requests
  | idRequest (tag : Byte) (payload : List Byte)
  | stat (tag : Byte) (payload : List Byte)
  | fetch (tag : Byte) (payload : List Byte)
  | cntr (tag : Byte) (payload : List Byte)
  | smpl (tag : Byte) (payload : List Byte)
  | trks (tag : Byte) (payload : List Byte)
  | inps (tag : Byte) (payload : List Byte)
  | viewMask (tag : Byte) (payload : List Byte)
  | viewNext (tag : Byte)
  | zack (tag : Byte) (payload : List Byte)
  | hush (tag : Byte) (payload : List Byte)
  | sound (tag : Byte) (payload : List Byte)
  | zset (tag : Byte) (payload : List Byte)
  | trun (tag : Byte) (payload : List Byte)
  | thalt (tag : Byte) (payload : List Byte)
  | dhold (tag : Byte) (payload : List Byte)
  | dshut (tag : Byte) (payload : List Byte)
  | htest (tag : Byte) (payload : List Byte)
  | vtest (tag : Byte) (payload : List Byte)
  | stest (tag : Byte) (payload : List Byte)
  | cfgin (tag : Byte) (payload : List Byte)
  | cfgout (tag : Byte) (payload : List Byte)
  | tread (tag : Byte) (payload : List Byte)
  | twriteTrunk (tag index : Byte) (entry : List Byte)
  | twriteBranch (tag index : Byte) (entry : List Byte)
  | twriteStation (tag index : Byte) (entry : List Byte)
  | twriteValve (tag index : Byte) (entry : List Byte)
  | twriteSupply (tag index : Byte) (entry : List Byte)
  | twriteTrip (tag index : Byte) (entry : List Byte)
  | twriteZone (tag index : Byte) (entry : List Byte)
  | twriteInput (tag index : Byte) (entry : List Byte)
  | twriteDoor (tag index : Byte) (entry : List Byte)
  | twriteSiren (tag index : Byte) (entry : List Byte)
  | twritePattern (tag index : Byte) (entry : List Byte)
  | twriteGlobal (tag index : Byte) (entry : List Byte)
  | store (tag : Byte) (payload : List Byte)
  | storeCompletion (matched : Bool)
  | rstrt (tag : Byte) (payload : List Byte)
  -- airflow
  | goodReading (trunk : Fin 4) (value : Nat)
  | outOfRangeReading (trunk : Fin 4)
  | holdExpiry (trunk : Fin 4)
  -- detector channels
  | detectorSample (station : Fin 16) (value : BitVec 12)
  | dutyWindowOpen (station : Fin 16)
  | dutyWindowEnd (station : Fin 16)
  | standingTimeReached (station : Fin 16)
  | loopFault (station : Fin 16) (cond : LoopFault)
  | loopRecovery (station : Fin 16)
  | testWindowExpiry (station : Fin 16)
  -- tracks
  | windowPass (track : Byte)
  -- sprays and the supply
  | openTimeReached (valve : Fin 12)
  | sprayMissed (valve : Fin 12)
  | valveClose (valve : Fin 12)
  | flowProveExpiry
  | unexpectedFlowExpiry
  | testSprayEnd (valve : Fin 12)
  -- trunks
  | slotAdvance (trunk : Fin 4)
  | gateTimerExpiry (trunk : Fin 4)
  | divertHoldExpiry (trunk : Fin 4)
  | clearDelayExpiry (trunk : Fin 4)
  | fanStopTimeout (trunk : Fin 4)
  | startTimeout (trunk : Fin 4)
  -- field inputs
  | rawInputChange (input : Fin 32) (high : Bool)
  | debounceExpiry (input : Fin 32)
  -- doors
  | releaseDelayExpiry (door : Fin 16)
  | closeTimerExpiry (door : Fin 16)
  -- sirens
  | startSlotFree
  | lastStartExpiry
  | stepEnd (siren : Fin 8)
  | sirenTestEnd (siren : Fin 8)
  | loadFault (siren : Fin 8) (cond : LoadFault)
  | loadRecovery (siren : Fin 8)
  -- reports
  | holdTimerExpiry
  | characterReceived (b : Byte)
deriving DecidableEq, Repr

end Sys2Proof
end

