-- ==== Sys2Proof/Decode.lean ====
section
/-! DEFINITION. Commands as words. The FP-716 fetches nothing, and spec/opcode_table.json gives its
rows no bits: a command reaches the part as a frame on the panel link or as an event (log entry 2). -/

namespace Sys2Proof

/-- The command a word of the table spells: no row has bits, so none. -/
def decodeTableWord (_nbits _w : Nat) : Option Instr := none

end Sys2Proof
end

