-- ==== Sys2Proof/Config.lean ====
section
/-! DEFINITION. What the manual leaves to the hardware: one free value without a body. -/

namespace Sys2Proof

/-- Whether the read-back of the `n`-th unattended store write matches. R194: "The moment within
that bound, and whether the read-back matches, are set by the nonvolatile store and not by the
part." It is read only by an idle step that reaches the 600 ms bound of a running STORE; a
STORE_COMPLETION command carries its own answer. Log entry 3. -/
opaque Config.storeReadBack : Nat → Bool

end Sys2Proof
end

