-- ==== Sys2Proof/Machine/Tables.lean ====
section
/-! DEFINITION. The twelve working tables (section 11.1): the fields of their entries and the
default values of R4, R6, R21, R71, R72, R101, R120, R129, R138, R154, R155 and R190. Quantities
are natural numbers in the unit their table gives, an index is a member of its range, and an index
that may be none is an `Option` (R2). -/

namespace Sys2Proof.Machine

/-- Zone and cause levels, in their order. -/
inductive Level
  | normal
  | watch
  | alert
  | fire
deriving DecidableEq, Repr

/-- The value of a level (the introduction's table of alarm levels). -/
def Level.rank : Level → Nat
  | .normal => 0
  | .watch => 1
  | .alert => 2
  | .fire => 3

/-- The higher of two levels. -/
def Level.max (a b : Level) : Level := if a.rank < b.rank then b else a

/-- A position: trunk, branch or none, and distance in dm from the filter inlet (R7). -/
structure Position where
  trunk : Fin 4
  branch : Option (Fin 16)
  dist : Nat
deriving DecidableEq, Repr

/-- A TRUNK entry (R4). `velHold`, `clearDelay`, `divertHold`, `startTimeout` and `fanStopTimeout` are in seconds. -/
structure TrunkEntry where
  enabled : Bool
  filterZone : Fin 16
  tolerance : Nat
  vStall : Nat
  vRun : Nat
  fallback : Nat
  velHold : Nat
  stallHold : Nat
  slotLen : Nat
  clearDelay : Nat
  divertHold : Nat
  gatePresent : Bool
  gateTimeout : Nat
  startTimeout : Nat
  fanStopTimeout : Nat
deriving DecidableEq, Repr

/-- A BRANCH entry (R6). -/
structure BranchEntry where
  trunk : Fin 4
  junction : Nat
  hallZone : Fin 16
  enabled : Bool
deriving DecidableEq, Repr

/-- A STATION entry (R21). -/
structure StationEntry where
  enabled : Bool
  pos : Position
  valve : Option (Fin 12)
  threshold : Nat
  hysteresis : Nat
  standingTime : Nat
  testThreshold : Nat
  inlet : Bool
deriving DecidableEq, Repr

/-- Priority classes of valves (R71). -/
inductive ValveClass
  | branch
  | trunk
  | filter
deriving DecidableEq, Repr

/-- A VALVE entry (R71). -/
structure ValveEntry where
  enabled : Bool
  pos : Position
  demand : Nat
  cls : ValveClass
  lead : Nat
  minHold : Nat
  tail : Nat
deriving DecidableEq, Repr

/-- Orders in which waiting valves are served (R72). -/
inductive Policy
  | strict
  | aged
deriving DecidableEq, Repr

/-- The SUPPLY entry (R72). `unexpTime` is in seconds. -/
structure SupplyEntry where
  capacity : Nat
  reserve : Nat
  policy : Policy
  ageLimit : Nat
  proveTime : Nat
  unexpTime : Nat
deriving DecidableEq, Repr

/-- Kinds of trip entry (R101). -/
inductive TripKind
  | none
  | tracksAtLeast
  | missedAtLeast
  | survivor
  | standingLight
  | velocityBelow
  | filterZoneAtLeast
  | hallZoneAtLeast
deriving DecidableEq, Repr

/-- Trip actions, in their order (R101). -/
inductive Action
  | watch
  | divert
  | haltClear
  | haltNow
deriving DecidableEq, Repr

/-- The place of an action in WATCH < DIVERT < HALT_CLEAR < HALT_NOW (R101). -/
def Action.rank : Action → Nat
  | .watch => 0
  | .divert => 1
  | .haltClear => 2
  | .haltNow => 3

/-- A TRIP entry (R101). -/
structure TripEntry where
  kind : TripKind
  threshold : Nat
  action : Action
deriving DecidableEq, Repr

/-- Zone kinds (R120). -/
inductive ZoneKind
  | hall
  | filter
  | yard
deriving DecidableEq, Repr

/-- A ZONE entry (R120). -/
structure ZoneEntry where
  kind : ZoneKind
  enabled : Bool
deriving DecidableEq, Repr

/-- Roles of field inputs, each with the entry it concerns (R129). -/
inductive Role
  | none
  | call (zone : Fin 16)
  | heat (zone : Fin 16)
  | flow
  | fan (trunk : Fin 4)
  | gate (trunk : Fin 4)
  | door (door : Fin 16)
  | key
deriving DecidableEq, Repr

/-- Senses of field inputs (R129). -/
inductive Sense
  | activeHigh
  | activeLow
  | rising
  | falling
deriving DecidableEq, Repr

/-- An INPUT entry (R129). -/
structure InputEntry where
  role : Role
  sense : Sense
  debounce : Nat
deriving DecidableEq, Repr

/-- A DOOR entry (R138). `delay` and `closeTimeout` are in seconds; `level` is ALERT or FIRE. -/
structure DoorEntry where
  zoneA : Fin 16
  zoneB : Option (Fin 16)
  level : Level
  delay : Nat
  interlock : Option (Fin 4)
  closeTimeout : Nat
  enabled : Bool
deriving DecidableEq, Repr

/-- A SIREN entry (R154). -/
structure SirenEntry where
  zones : BitVec 16
  watchPattern : Option (Fin 8)
  alertPattern : Option (Fin 8)
  firePattern : Option (Fin 8)
  partner : Option (Fin 8)
  enabled : Bool
deriving DecidableEq, Repr

/-- One step slot of a PATTERN entry as it is carried: output state and duration in units of 50 ms (R155). -/
structure Slot where
  out : Byte
  units : Byte
deriving DecidableEq, Repr

/-- A PATTERN entry: the step count and the sixteen slots as last written (R155). -/
structure PatternEntry where
  count : Nat
  slots : Vector Slot 16
deriving DecidableEq, Repr

/-- The GLOBAL entry (R190). -/
structure GlobalEntry where
  holdTime : Nat
  fillMark : Nat
  startGap : Nat
  samplerN : Nat
  b1 : Nat
  b2 : Nat
  b3 : Nat
  dutyInterval : Nat
  testWindow : Nat
deriving DecidableEq, Repr

/-- The twelve tables of section 11.1. -/
structure Tables where
  trunk : Vector TrunkEntry 4
  branch : Vector BranchEntry 16
  station : Vector StationEntry 16
  valve : Vector ValveEntry 12
  supply : SupplyEntry
  trip : Vector TripEntry 24
  zone : Vector ZoneEntry 16
  input : Vector InputEntry 32
  door : Vector DoorEntry 16
  siren : Vector SirenEntry 8
  pattern : Vector PatternEntry 8
  global : GlobalEntry
deriving DecidableEq, Repr

/-- R4. -/
def TrunkEntry.default : TrunkEntry :=
  { enabled := false, filterZone := 0, tolerance := 15, vStall := 800, vRun := 1200, fallback := 1500, velHold := 5,
    stallHold := 5000, slotLen := 1000, clearDelay := 10, divertHold := 30, gatePresent := false, gateTimeout := 1000,
    startTimeout := 30, fanStopTimeout := 60 }

/-- R6. -/
def BranchEntry.default : BranchEntry := { trunk := 0, junction := 0, hallZone := 0, enabled := false }

/-- R21. -/
def StationEntry.default : StationEntry :=
  { enabled := false, pos := { trunk := 0, branch := none, dist := 0 }, valve := none, threshold := 1000, hysteresis := 200,
    standingTime := 2000, testThreshold := 800, inlet := false }

/-- R71. -/
def ValveEntry.default : ValveEntry :=
  { enabled := false, pos := { trunk := 0, branch := none, dist := 0 }, demand := 1, cls := .branch, lead := 80, minHold := 600,
    tail := 150 }

/-- R72. -/
def SupplyEntry.default : SupplyEntry :=
  { capacity := 4, reserve := 1, policy := .strict, ageLimit := 500, proveTime := 2000, unexpTime := 10 }

/-- R101. -/
def TripEntry.default : TripEntry := { kind := .none, threshold := 0, action := .watch }

/-- R120, for every zone but zone 0. -/
def ZoneEntry.default : ZoneEntry := { kind := .yard, enabled := false }

/-- R129. -/
def InputEntry.default : InputEntry := { role := .none, sense := .activeHigh, debounce := 20 }

/-- R138. -/
def DoorEntry.default : DoorEntry :=
  { zoneA := 0, zoneB := none, level := .fire, delay := 0, interlock := none, closeTimeout := 10, enabled := false }

/-- R154. -/
def SirenEntry.default : SirenEntry :=
  { zones := 0, watchPattern := none, alertPattern := none, firePattern := none, partner := none, enabled := false }

/-- R155: a step count of 0, and slots holding output off and duration unit 1. -/
def PatternEntry.default : PatternEntry := { count := 0, slots := Vector.replicate 16 { out := 0, units := 1 } }

/-- R190. -/
def GlobalEntry.default : GlobalEntry :=
  { holdTime := 100, fillMark := 8, startGap := 500, samplerN := 256, b1 := 500, b2 := 1500, b3 := 3000, dutyInterval := 1000,
    testWindow := 200 }

/-- The defaults of the start-up precedence (R195): zone 0 enabled with kind YARD, every other entry disabled. -/
def Tables.default : Tables :=
  { trunk := Vector.replicate 4 TrunkEntry.default
    branch := Vector.replicate 16 BranchEntry.default
    station := Vector.replicate 16 StationEntry.default
    valve := Vector.replicate 12 ValveEntry.default
    supply := SupplyEntry.default
    trip := Vector.replicate 24 TripEntry.default
    zone := (Vector.replicate 16 ZoneEntry.default).set 0 { kind := .yard, enabled := true }
    input := Vector.replicate 32 InputEntry.default
    door := Vector.replicate 16 DoorEntry.default
    siren := Vector.replicate 8 SirenEntry.default
    pattern := Vector.replicate 8 PatternEntry.default
    global := GlobalEntry.default }

end Sys2Proof.Machine
end

