-- ==== Sys2Proof/Machine/State.lean ====
section
/-! DEFINITION. The state of the FP-716, block by block (section "Block overview"), as plain data.
A timer is the stored expiry (R1), `none` while it does not run. Output lines stand beside the
state that drives them. `State.reset` is the part right after POWER-ON. -/

namespace Sys2Proof.Machine

/-! ### Airflow monitor (chapter 1) -/

/-- Stages of a velocity fault (section 1.5). -/
inductive VelStage
  | clear
  | hold
  | fallback
deriving DecidableEq, Repr

/-- What AFM keeps per trunk (section 1.5). -/
structure TrunkAir where
  vf : Nat
  stage : VelStage
  faultStart : Option Time
  holdExpiry : Option Time
  stalled : Bool
deriving DecidableEq, Repr

/-! ### Detector front end (chapter 2) -/

/-- Scan states of a station (section 2.2). SCAN_DUTY holds the opening of its current or last
window, whether that window is still open, and the next opening (R25); TEST its start and the
expiry of its test window (R34); FAULT the code of its entry (R32). -/
inductive Scan
  | off
  | cont
  | duty (opened : Time) (windowOpen : Bool) (nextOpen : Time)
  | test (start expiry : Time)
  | fault (code : LoopFault)
deriving DecidableEq, Repr

/-- An open detection run (R26): `track` is none until the correlator has handed the id back. -/
structure Run where
  detected : Time
  peak : Nat
  track : Option Byte
deriving DecidableEq, Repr

/-- Results of head, spray and siren tests (section 2.6, R178). -/
inductive TestResult
  | none
  | running
  | pass
  | fail
  | aborted
deriving DecidableEq, Repr

/-- What DFE keeps per station. `emitter` is the test emitter output; `loop` is the condition of the
loop itself on the wire, `none` in its normal band. -/
structure Station where
  scan : Scan
  run : Option Run
  standing : Bool
  lastResult : TestResult
  lastSample : Nat
  lastSampleTime : Time
  emitter : Bool
  loop : Option LoopFault
deriving DecidableEq, Repr

/-- The detector front end: scanning released (R24), the view rotation (section 2.7) and the stations. -/
structure Dfe where
  released : Bool
  viewSet : BitVec 16
  viewPos : Option (Fin 16)
  stations : Vector Station 16
deriving DecidableEq, Repr

/-! ### Track correlator (chapter 3) -/

/-- Spray outcome so far (R40). -/
inductive SprayOutcome
  | none
  | scheduled
  | opened
  | missed
deriving DecidableEq, Repr

/-- Outcomes of a track (R178); `active` is carried by a sample of a track still in the table. -/
inductive TrackOutcome
  | active
  | extinguished
  | vanished
  | unconfirmed
  | survived
  | discarded
deriving DecidableEq, Repr

/-- The next station and its window: the window is present exactly when the next station is (R40). -/
structure Expect where
  station : Fin 16
  early : Time
  late : Time
deriving DecidableEq, Repr

/-- One track (R40). -/
structure Track where
  id : Byte
  trunk : Fin 4
  origin : Fin 16
  originTime : Time
  last : Fin 16
  lastTime : Time
  peak : Nat
  sightings : Nat
  next : Option Expect
  valve : Option (Fin 12)
  outcome : SprayOutcome
  sprayClosed : Bool
  passes : Nat
  tagged : Bool
deriving DecidableEq, Repr

/-- The track table, oldest first (R40), and the id counter (R41). -/
structure Trc where
  tracks : List Track
  idCounter : Byte
deriving DecidableEq, Repr

/-! ### Spray arbiter (chapter 4) -/

/-- The schedule a valve holds while SCHEDULED, WAITING or OPEN (section 4.3), with its request list (R74). -/
structure Schedule where
  openTime : Time
  closeTime : Time
  lateStart : Bool
  merged : Nat
  requests : List Byte
deriving DecidableEq, Repr

/-- Valve states (section 4.3). WAITING holds its wait start time; OPEN its grant time, LATE mark
and grant class; TEST its end time and flow-seen mark (its grant class is BRANCH, R89). A valve is
in the grant queue exactly when it is WAITING (R73), so the queue needs no list of its own. -/
inductive ValveState
  | idle
  | scheduled (sch : Schedule)
  | waiting (sch : Schedule) (since : Time)
  | spraying (sch : Schedule) (granted : Time) (late : Bool) (cls : ValveClass)
  | test (ends : Time) (flowSeen : Bool)
deriving DecidableEq, Repr

/-- One valve and its spray output. -/
structure Valve where
  st : ValveState
  output : Bool
deriving DecidableEq, Repr

/-- The tagged request of the response sampler (R92). -/
structure TaggedRequest where
  track : Byte
  trunk : Fin 4
  station : Fin 16
  valve : Fin 12
  detected : Time
  transit : Nat
  early : Nat
  openTime : Time
  lateStart : Bool
  merged : Bool
deriving DecidableEq, Repr

/-- A captured sample (R93). -/
structure Sample where
  request : TaggedRequest
  grantTime : Time
  closeTime : Time
  late : Bool
  missed : Bool
  outcome : TrackOutcome
  captured : Time
deriving DecidableEq, Repr

/-- The response sampler's state (section 4.13); while TAGGED it keeps the outcome handed on by R66, if any. -/
inductive Sampler
  | armed
  | tagged (request : TaggedRequest) (outcome : Option TrackOutcome)
  | valid (sample : Sample)
deriving DecidableEq, Repr

/-- The spray arbiter: valves, the live state of the supply (section 4.2) and the response sampler. -/
structure Spa where
  valves : Vector Valve 12
  units : Nat
  nonFilter : Nat
  flow : Bool
  flowProven : Bool
  supplyFault : Bool
  proveExpiry : Option Time
  unexpExpiry : Option Time
  unexpRaised : Bool
  sampler : Sampler
  samplerCount : Nat
deriving DecidableEq, Repr

/-! ### Trunk controller (chapter 5) -/

/-- Causes of trunk states (R98, R178). -/
inductive Cause
  | none
  | start
  | service
  | manual
  | gateFault
  | startFail
  | resume
  | trip (slot : Fin 6)
deriving DecidableEq, Repr

/-- Protection states (R97); HALT holds its HALT cause, STOPPING its pending cause. A disabled trunk
is in HALT with cause NONE, as STAT shows it (R117). -/
inductive Prot
  | halt (cause : Cause)
  | starting
  | run
  | watch
  | divert
  | stopping (pending : Cause)
deriving DecidableEq, Repr

/-- The six state names a TRUNK_STATE record carries. -/
inductive TrunkPhase
  | halt
  | starting
  | run
  | watch
  | divert
  | stopping
deriving DecidableEq, Repr

/-- What TKC keeps per trunk: state and outputs (R97), supervision timers (R105 to R111), rings and
slot timer (R99), flags (R109, R114) and the FAN and GATE inputs as handed by FIU (R132).
`haltEntry` is the entry to HALT from which the fan stop timeout counts (R109). -/
structure Trunk where
  prot : Prot
  fanOut : Bool
  gateOut : Bool
  gateTimer : Option Time
  gateConfirmed : Bool
  divertHold : Option Time
  clearDelay : Option Time
  startTimer : Option Time
  fanStop : Option Time
  haltEntry : Time
  newRing : Vector Nat 8
  missedRing : Vector Nat 8
  slot : Fin 8
  slotStart : Time
  nextAdvance : Option Time
  survivor : Bool
  fanQuiet : Bool
  fanFault : Bool
  fanIn : Bool
  gateIn : Bool
deriving DecidableEq, Repr

/-- The trunk controller: trunks and the machine-stop outputs (`true` is asserted). -/
structure Tkc where
  trunks : Vector Trunk 4
  machineStop : Vector Bool 16
deriving DecidableEq, Repr

/-! ### Zone table and field input unit (chapter 6) -/

/-- A zone's cause set: the level of each of the eight kinds, NORMAL when the cause is not present (R121). -/
structure CauseSet where
  call : Level
  heat : Level
  standing : Level
  survivor : Level
  trunk : Level
  supply : Level
  flowUnexpected : Level
  manual : Level
deriving DecidableEq, Repr

/-- What ZNT keeps per zone. -/
structure Zone where
  causes : CauseSet
  current : Level
  latched : Level
  ack : Bool
  silenced : Bool
  hush : Level
deriving DecidableEq, Repr

/-- What FIU keeps per input: raw and debounced states (`true` is HIGH), the first differing sample
of a running debounce (R130), the edge latch and the active state (R131). -/
structure Input where
  raw : Bool
  debounced : Bool
  differs : Option Time
  latch : Bool
  active : Bool
deriving DecidableEq, Repr

/-! ### Door controller (chapter 7) -/

/-- Release sources (R140). -/
inductive Source
  | level
  | shut
deriving DecidableEq, Repr

/-- Door states (section 7.2). DELAYED (whose source is always LEVEL, R142) and RELEASED hold their
entry time and their timer's expiry; WAIT_FAN its release source. -/
inductive DoorState
  | held
  | ready
  | delayed (entered expiry : Time)
  | waitFan (src : Source)
  | released (entered expiry : Time)
  | closed
  | blocked
  | disabled
deriving DecidableEq, Repr

/-- The eight state names a DOOR_STATE record carries. -/
inductive DoorPhase
  | held
  | ready
  | delayed
  | waitFan
  | released
  | closed
  | blocked
  | disabled
deriving DecidableEq, Repr

/-- One door: its state, holder output (`true` is on) and contact as handed by FIU (`true` is closed). -/
structure Door where
  st : DoorState
  holder : Bool
  contact : Bool
deriving DecidableEq, Repr

/-! ### Siren sequencer (chapter 8) -/

/-- The pending test of a siren in START_WAIT (R163): pattern and duration in ms. -/
structure PendingTest where
  pattern : Fin 8
  duration : Nat
deriving DecidableEq, Repr

/-- Siren states (section 8.4). SOUNDING and TEST hold the pattern, the current step, its wanted
output and the step timer; in TEST no step timer runs after a silent pattern (R160). A siren is in
the start queue exactly while it is in START_WAIT (R158). -/
inductive SirenState
  | off
  | startWait (test : Option PendingTest)
  | sounding (pattern : Fin 8) (step : Nat) (wantOn : Bool) (expiry : Time) (next : Option (Fin 8)) (stop : Bool)
  | test (pattern : Fin 8) (step : Nat) (wantOn : Bool) (expiry : Option Time) (ends : Time) (faultSeen : Bool)
deriving DecidableEq, Repr

/-- The four state names a SIREN_STATE record carries. -/
inductive SirenPhase
  | off
  | startWait
  | sounding
  | test
deriving DecidableEq, Repr

/-- One siren: state, wanted pattern (R156), output, standing fault (R165), and the condition of its
load on the wire, `none` in its normal band. -/
structure Siren where
  st : SirenState
  wanted : Option (Fin 8)
  output : Bool
  fault : Option LoadFault
  load : Option LoadFault
deriving DecidableEq, Repr

/-- The siren sequencer: the sirens and the last start time (section 8.5). -/
structure Srs where
  sirens : Vector Siren 8
  lastStart : Option Time
deriving DecidableEq, Repr

/-! ### Report queue and counter bank (chapter 10) -/

/-- Events of a SPRAY record (R183). -/
inductive SprayEvent
  | opened
  | closed
  | missed
deriving DecidableEq, Repr

/-- The source kind, index and fault code of a FAULT record (R183). -/
inductive FaultKind
  | velocity (trunk : Fin 4)
  | station (station : Fin 16) (code : LoopFault)
  | noFlow
  | flowUnexpected
  | fan (trunk : Fin 4)
  | door (door : Fin 16)
  | siren (siren : Fin 8) (code : LoadFault)
  | configInvalid
  | storeInvalid
deriving DecidableEq, Repr

/-- The kind and index of a TEST_RESULT record (R183). -/
inductive TestKind
  | head (station : Fin 16)
  | spray (valve : Fin 12)
  | siren (siren : Fin 8)
deriving DecidableEq, Repr

/-- The kind and body of a report record (R183). -/
inductive Body
  | detect (station : Fin 16) (detected : Time) (peak length : Nat) (track : Byte)
  | trackEnd (id : Byte) (trunk : Fin 4) (outcome : TrackOutcome) (sightings passes : Nat)
  | spray (valve : Fin 12) (event : SprayEvent) (lateStart late : Bool) (merged : Nat) (openTime closeTime : Time)
  | trunkState (trunk : Fin 4) (old new : TrunkPhase) (cause : Cause)
  | zoneLevel (zone : Fin 16) (latched current : Level) (causes : CauseSet)
  | doorState (door : Fin 16) (st : DoorPhase)
  | sirenState (siren : Fin 8) (st : SirenPhase) (pattern : Option (Fin 8))
  | fault (kind : FaultKind) (set : Bool)
  | input (input : Fin 32) (active : Bool)
  | testResult (kind : TestKind) (result : TestResult)
  | sampleReady
  | storeDone (passed : Bool)
deriving DecidableEq, Repr

/-- One record of the report queue (R182). -/
structure Record where
  time : Time
  urgent : Bool
  body : Body
deriving DecidableEq, Repr

/-- The report hold timer (R185). -/
inductive HoldTimer
  | stopped
  | running (started expiry : Time)
  | expired
deriving DecidableEq, Repr

/-- A station's counter group (R187). -/
structure StationCounters where
  band0 : Count
  band1 : Count
  band2 : Count
  band3 : Count
  standing : Count
  faults : Count
deriving DecidableEq, Repr

/-- A valve's counter group (R187). -/
structure ValveCounters where
  opens : Count
  late : Count
  missed : Count
  tests : Count
deriving DecidableEq, Repr

/-- A trunk's counter group (R187). -/
structure TrunkCounters where
  newTracks : Count
  extinguished : Count
  survived : Count
  vanished : Count
  unconfirmed : Count
  discarded : Count
  haltsByTrip : Count
deriving DecidableEq, Repr

/-- The counter bank (R187). -/
structure Bank where
  station : Vector StationCounters 16
  valve : Vector ValveCounters 12
  trunk : Vector TrunkCounters 4
deriving DecidableEq, Repr

/-- Report queue (oldest first), dropped count, hold timer, the ATTN line and the counter bank. -/
structure Rpq where
  queue : List Record
  dropped : Nat
  holdTimer : HoldTimer
  attn : Bool
  bank : Bank
deriving DecidableEq, Repr

/-! ### Panel link (chapter 9) -/

/-- Frame receiver states (section 9.3), with the time of the last byte; BODY holds LEN and the
bytes received after it. -/
inductive Receiver
  | hunt
  | length (last : Time)
  | body (len : Nat) (bytes : List Byte) (last : Time)
deriving DecidableEq, Repr

/-- Result codes (R175). -/
inductive Result
  | ok
  | unknown
  | length
  | range
  | busy
  | refused
  | mode
deriving DecidableEq, Repr

/-- The reply being sent (R170): KIND with its top bit set, TAG, RESULT and payload, and the time its sending began (R177). -/
structure Reply where
  kind : Byte
  tag : Byte
  result : Result
  payload : List Byte
  started : Time
deriving DecidableEq, Repr

/-- The panel link. `restartPending` is set from an accepted RSTRT to the RESTART that follows its reply (R181). -/
structure Lnk where
  rx : Receiver
  tx : Option Reply
  discarded : Nat
  restartPending : Bool
deriving DecidableEq, Repr

/-! ### Configuration store (chapter 11) -/

/-- Part modes (section 11.2). -/
inductive Mode
  | start
  | armed
  | configure
deriving DecidableEq, Repr

/-- Store states (section 11.4); RUNNING holds the time of acceptance, from which the 600 ms bound counts (R194). -/
inductive StoreState
  | none
  | running (accepted : Time)
  | pass
  | fail
deriving DecidableEq, Repr

/-- The configuration store. `copy` and `copyGood` are the nonvolatile copy and whether its CRC
matches it; `key` is the keyswitch (`true` is MAINTAIN); `strap` is the CFGHOLD strap as read at the
start of the last load, `loadInvalid` whether that load took the defaults over a bad copy (R195),
and `resetAt` the time of the last reset, from which the 100 ms bound of the load counts. -/
structure Cfs where
  mode : Mode
  tables : Tables
  copy : Tables
  copyGood : Bool
  storeState : StoreState
  storeLock : Bool
  key : Bool
  configInvalid : Bool
  storeInvalid : Bool
  strap : Bool
  loadInvalid : Bool
  resetAt : Time
deriving DecidableEq, Repr

/-- The whole part. `pending` is the queue of commands waiting, first in, first out; `time` is the
time counter (R1); `draws` is the MODEL's own counter of free values drawn (log entry 3). -/
structure State where
  pending : List Instr
  time : Time
  draws : Nat
  afm : Vector TrunkAir 4
  dfe : Dfe
  trc : Trc
  spa : Spa
  tkc : Tkc
  znt : Vector Zone 16
  fiu : Vector Input 32
  drc : Vector Door 16
  srs : Srs
  rpq : Rpq
  lnk : Lnk
  cfs : Cfs
deriving DecidableEq, Repr

/-- Reasons to stop with a fault. No command of this block stops the part, so there is none: every
event the manual describes has an effect or does not arise (log entry 4). -/
inductive Fault
deriving DecidableEq, Repr

/-- Reasons to refuse a command. -/
inductive Refusal
  /-- A command without a meaning in the model, named as the opcode table spells it. Raised by an
  arm of `exec` alone, and by none of the present ones; safe. -/
  | notModelled (mnemonic : String)
deriving DecidableEq, Repr

/-! ### Reset values -/

/-- R19. -/
def TrunkAir.reset : TrunkAir := { vf := 0, stage := .clear, faultStart := none, holdExpiry := none, stalled := true }

/-- R38, on a loop in its normal band. -/
def Station.reset : Station :=
  { scan := .off, run := none, standing := false, lastResult := .none, lastSample := 0, lastSampleTime := 0, emitter := false,
    loop := none }

/-- R38. -/
def Dfe.reset : Dfe := { released := false, viewSet := 0, viewPos := none, stations := Vector.replicate 16 Station.reset }

/-- R70. -/
def Trc.reset : Trc := { tracks := [], idCounter := 0 }

/-- R95. -/
def Spa.reset : Spa :=
  { valves := Vector.replicate 12 { st := .idle, output := false }, units := 0, nonFilter := 0, flow := false,
    flowProven := false, supplyFault := false, proveExpiry := none, unexpExpiry := none, unexpRaised := false,
    sampler := .armed, samplerCount := 0 }

/-- R118, on a trunk without an abort gate. -/
def Trunk.reset : Trunk :=
  { prot := .halt .start, fanOut := false, gateOut := false, gateTimer := none, gateConfirmed := false, divertHold := none,
    clearDelay := none, startTimer := none, fanStop := none, haltEntry := 0, newRing := Vector.replicate 8 0,
    missedRing := Vector.replicate 8 0, slot := 0, slotStart := 0, nextAdvance := none, survivor := false, fanQuiet := false,
    fanFault := false, fanIn := false, gateIn := false }

/-- R118. -/
def Tkc.reset : Tkc := { trunks := Vector.replicate 4 Trunk.reset, machineStop := Vector.replicate 16 true }

/-- No cause present. -/
def CauseSet.empty : CauseSet :=
  { call := .normal, heat := .normal, standing := .normal, survivor := .normal, trunk := .normal, supply := .normal,
    flowUnexpected := .normal, manual := .normal }

/-- R136. -/
def Zone.reset : Zone :=
  { causes := CauseSet.empty, current := .normal, latched := .normal, ack := false, silenced := false, hush := .normal }

/-- R137, on a raw state LOW; the debounced state, which R137 leaves unformed until the load completes, is held
LOW (log entry 6). -/
def Input.reset : Input := { raw := false, debounced := false, differs := none, latch := false, active := false }

/-- R153. -/
def Door.reset : Door := { st := .held, holder := true, contact := false }

/-- R168, on a load in its normal band. -/
def Siren.reset : Siren := { st := .off, wanted := none, output := false, fault := none, load := none }

/-- R168. -/
def Srs.reset : Srs := { sirens := Vector.replicate 8 Siren.reset, lastStart := none }

/-- R189 at POWER-ON: every counter 0. -/
def Bank.zero : Bank :=
  { station := Vector.replicate 16 { band0 := 0, band1 := 0, band2 := 0, band3 := 0, standing := 0, faults := 0 }
    valve := Vector.replicate 12 { opens := 0, late := 0, missed := 0, tests := 0 }
    trunk := Vector.replicate 4
      { newTracks := 0, extinguished := 0, survived := 0, vanished := 0, unconfirmed := 0, discarded := 0, haltsByTrip := 0 } }

/-- R189. -/
def Rpq.reset : Rpq := { queue := [], dropped := 0, holdTimer := .stopped, attn := false, bank := Bank.zero }

/-- R181. -/
def Lnk.reset : Lnk := { rx := .hunt, tx := none, discarded := 0, restartPending := false }

/-- R194 and R195 on a part whose store was never written and whose strap is not asserted: the
defaults are being loaded over a bad copy (log entry 5). -/
def Cfs.reset : Cfs :=
  { mode := .start, tables := Tables.default, copy := Tables.default, copyGood := false, storeState := .none, storeLock := false,
    key := false, configInvalid := false, storeInvalid := false, strap := false, loadInvalid := true, resetAt := 0 }

/-- The part right after POWER-ON, in START, with an empty queue (R1, R195). -/
def State.reset : State :=
  { pending := [], time := 0, draws := 0, afm := Vector.replicate 4 TrunkAir.reset, dfe := Dfe.reset, trc := Trc.reset,
    spa := Spa.reset, tkc := Tkc.reset, znt := Vector.replicate 16 Zone.reset, fiu := Vector.replicate 32 Input.reset,
    drc := Vector.replicate 16 Door.reset, srs := Srs.reset, rpq := Rpq.reset, lnk := Lnk.reset, cfs := Cfs.reset }

end Sys2Proof.Machine
end

