-- ==== Sys2Proof/Machine/Operands.lean ====
section
/-! DEFINITION. Operand forms: link fields (R2, R3), field codes (R178), table entries as TREAD
carries them and TWRITE takes them (R179), report records (R183). A decoder answers `none` exactly
where the owning chapter answers RANGE. -/

namespace Sys2Proof.Machine

/-! ### Link fields (R3) -/

/-- The `n` low bytes of `v`, least significant first. -/
def leBytes : Nat → Nat → List Byte
  | 0, _ => []
  | n + 1, v => BitVec.ofNat 8 v :: leBytes n (v / 256)

/-- A one-byte field. -/
def byte (v : Nat) : Byte := BitVec.ofNat 8 v

/-- A two-byte little-endian field read back. -/
def u16 (lo hi : Byte) : Nat := lo.toNat + 256 * hi.toNat

/-- A time as it is carried: 4 bytes. -/
def timeBytes (t : Time) : List Byte := leBytes 4 t.toNat

/-- A flag as it is carried. -/
def flagByte (b : Bool) : Byte := if b then 1 else 0

/-- An index that may be none is carried as 255 when it is none (R2). -/
def optByte {n : Nat} : Option (Fin n) → Byte
  | none => 255
  | some i => byte i.val

/-- A 0-or-1 field. -/
def readFlag (b : Byte) : Option Bool := if b = 0 then some false else if b = 1 then some true else none

/-- An index field with `n` members. -/
def readIndex (n : Nat) (b : Byte) : Option (Fin n) := if h : b.toNat < n then some ⟨b.toNat, h⟩ else none

/-- An optional index field: 255 is none (R2). -/
def readOptIndex (n : Nat) (b : Byte) : Option (Option (Fin n)) :=
  if b = 255 then some none else (readIndex n b).map some

/-- A quantity within its range. -/
def readRange (lo hi v : Nat) : Option Nat := if lo ≤ v ∧ v ≤ hi then some v else none

/-- Bits packed into a number, member `i` as bit `i` (R3). -/
def packBits : List Bool → Nat
  | [] => 0
  | b :: bs => (if b then 1 else 0) + 2 * packBits bs

/-! ### Field codes (R178) -/

def Level.code (l : Level) : Byte := byte l.rank

def readLevel (b : Byte) : Option Level :=
  match b.toNat with
  | 0 => some .normal
  | 1 => some .watch
  | 2 => some .alert
  | 3 => some .fire
  | _ => none

def Mode.code : Mode → Byte
  | .start => 0
  | .armed => 1
  | .configure => 2

def TrunkPhase.code : TrunkPhase → Byte
  | .halt => 0
  | .starting => 1
  | .run => 2
  | .watch => 3
  | .divert => 4
  | .stopping => 5

def Cause.code : Cause → Byte
  | .none => 0
  | .start => 1
  | .service => 2
  | .manual => 3
  | .gateFault => 4
  | .startFail => 5
  | .resume => 6
  | .trip slot => byte (8 + slot.val)

def Scan.code : Scan → Byte
  | .off => 0
  | .cont => 1
  | .duty _ _ _ => 2
  | .test _ _ => 3
  | .fault _ => 4

def TestResult.code : TestResult → Byte
  | .none => 0
  | .running => 1
  | .pass => 2
  | .fail => 3
  | .aborted => 4

def DoorPhase.code : DoorPhase → Byte
  | .held => 0
  | .ready => 1
  | .delayed => 2
  | .waitFan => 3
  | .released => 4
  | .closed => 5
  | .blocked => 6
  | .disabled => 7

def SirenPhase.code : SirenPhase → Byte
  | .off => 0
  | .startWait => 1
  | .sounding => 2
  | .test => 3

def Sampler.code : Sampler → Byte
  | .armed => 0
  | .tagged _ _ => 1
  | .valid _ => 2

def StoreState.code : StoreState → Byte
  | .none => 0
  | .running _ => 1
  | .pass => 2
  | .fail => 3

def SprayOutcome.code : SprayOutcome → Byte
  | .none => 0
  | .scheduled => 1
  | .opened => 2
  | .missed => 3

def TrackOutcome.code : TrackOutcome → Byte
  | .active => 0
  | .extinguished => 1
  | .vanished => 2
  | .unconfirmed => 3
  | .survived => 4
  | .discarded => 5

/-- R175. -/
def Result.code : Result → Byte
  | .ok => 0
  | .unknown => 1
  | .length => 2
  | .range => 3
  | .busy => 4
  | .refused => 5
  | .mode => 6

/-- Whether a cause is present (R121). -/
def Level.present (l : Level) : Bool := l.rank != 0

/-- The cause set as a mask: CALL bit 0 to MANUAL bit 7. -/
def CauseSet.code (c : CauseSet) : Byte :=
  byte (packBits [c.call.present, c.heat.present, c.standing.present, c.survivor.present, c.trunk.present, c.supply.present,
    c.flowUnexpected.present, c.manual.present])

/-! ### State names of the data-carrying states -/

def Prot.phase : Prot → TrunkPhase
  | .halt _ => .halt
  | .starting => .starting
  | .run => .run
  | .watch => .watch
  | .divert => .divert
  | .stopping _ => .stopping

/-- The cause STAT shows: the HALT cause in HALT, the pending cause in STOPPING, NONE otherwise (R180). -/
def Prot.cause : Prot → Cause
  | .halt c => c
  | .stopping c => c
  | _ => .none

def DoorState.phase : DoorState → DoorPhase
  | .held => .held
  | .ready => .ready
  | .delayed _ _ => .delayed
  | .waitFan _ => .waitFan
  | .released _ _ => .released
  | .closed => .closed
  | .blocked => .blocked
  | .disabled => .disabled

def SirenState.phase : SirenState → SirenPhase
  | .off => .off
  | .startWait _ => .startWait
  | .sounding _ _ _ _ _ _ => .sounding
  | .test _ _ _ _ _ _ => .test

/-- The pattern a SIREN_STATE record carries (R166). -/
def SirenState.pattern : SirenState → Option (Fin 8)
  | .sounding p _ _ _ _ _ => some p
  | .test p _ _ _ _ _ => some p
  | _ => none

/-! ### Table entries -/

/-- A position: 4 bytes (R7). -/
def Position.encode (p : Position) : List Byte := [byte p.trunk.val, optByte p.branch] ++ leBytes 2 p.dist

def readPosition (t b lo hi : Byte) : Option Position := do
  let trunk ← readIndex 4 t
  let branch ← readOptIndex 16 b
  let dist ← readRange 0 4095 (u16 lo hi)
  pure { trunk, branch, dist }

/-- R4: 23 bytes. -/
def TrunkEntry.encode (e : TrunkEntry) : List Byte :=
  [flagByte e.enabled, byte e.filterZone.val, byte e.tolerance] ++ leBytes 2 e.vStall ++ leBytes 2 e.vRun ++ leBytes 2 e.fallback
    ++ [byte e.velHold] ++ leBytes 2 e.stallHold ++ leBytes 2 e.slotLen ++ [byte e.clearDelay] ++ leBytes 2 e.divertHold
    ++ [flagByte e.gatePresent] ++ leBytes 2 e.gateTimeout ++ [byte e.startTimeout] ++ leBytes 2 e.fanStopTimeout

/-- R4: v_run and the fallback velocity are checked against the v_stall of the same write. -/
def TrunkEntry.decode : List Byte → Option TrunkEntry
  | [en, fz, tol, vs0, vs1, vr0, vr1, fb0, fb1, vh, sh0, sh1, sl0, sl1, cd, dh0, dh1, gp, gt0, gt1, st, fs0, fs1] => do
    let enabled ← readFlag en
    let filterZone ← readIndex 16 fz
    let tolerance ← readRange 0 50 tol.toNat
    let vStall ← readRange 300 2000 (u16 vs0 vs1)
    let vRun ← readRange vStall 5000 (u16 vr0 vr1)
    let fallback ← readRange vStall 5000 (u16 fb0 fb1)
    let velHold ← readRange 1 60 vh.toNat
    let stallHold ← readRange 2000 30000 (u16 sh0 sh1)
    let slotLen ← readRange 100 8000 (u16 sl0 sl1)
    let clearDelay ← readRange 0 60 cd.toNat
    let divertHold ← readRange 1 600 (u16 dh0 dh1)
    let gatePresent ← readFlag gp
    let gateTimeout ← readRange 100 5000 (u16 gt0 gt1)
    let startTimeout ← readRange 5 120 st.toNat
    let fanStopTimeout ← readRange 5 300 (u16 fs0 fs1)
    pure { enabled, filterZone, tolerance, vStall, vRun, fallback, velHold, stallHold, slotLen, clearDelay, divertHold,
           gatePresent, gateTimeout, startTimeout, fanStopTimeout }
  | _ => none

/-- R6: 5 bytes. -/
def BranchEntry.encode (e : BranchEntry) : List Byte :=
  [byte e.trunk.val] ++ leBytes 2 e.junction ++ [byte e.hallZone.val, flagByte e.enabled]

def BranchEntry.decode : List Byte → Option BranchEntry
  | [t, j0, j1, hz, en] => do
    let trunk ← readIndex 4 t
    let junction ← readRange 0 4094 (u16 j0 j1)
    let hallZone ← readIndex 16 hz
    let enabled ← readFlag en
    pure { trunk, junction, hallZone, enabled }
  | _ => none

/-- R21: 15 bytes. -/
def StationEntry.encode (e : StationEntry) : List Byte :=
  [flagByte e.enabled] ++ e.pos.encode ++ [optByte e.valve] ++ leBytes 2 e.threshold ++ leBytes 2 e.hysteresis
    ++ leBytes 2 e.standingTime ++ leBytes 2 e.testThreshold ++ [flagByte e.inlet]

/-- R21: the hysteresis is below the spark threshold of the same write. -/
def StationEntry.decode : List Byte → Option StationEntry
  | [en, pt, pb, pd0, pd1, v, th0, th1, hy0, hy1, st0, st1, tt0, tt1, inl] => do
    let enabled ← readFlag en
    let pos ← readPosition pt pb pd0 pd1
    let valve ← readOptIndex 12 v
    let threshold ← readRange 1 4095 (u16 th0 th1)
    let hysteresis ← readRange 0 (min 1023 (threshold - 1)) (u16 hy0 hy1)
    let standingTime ← readRange 200 10000 (u16 st0 st1)
    let testThreshold ← readRange 1 4095 (u16 tt0 tt1)
    let inlet ← readFlag inl
    pure { enabled, pos, valve, threshold, hysteresis, standingTime, testThreshold, inlet }
  | _ => none

def ValveClass.code : ValveClass → Byte
  | .branch => 0
  | .trunk => 1
  | .filter => 2

def readClass (b : Byte) : Option ValveClass :=
  match b.toNat with
  | 0 => some .branch
  | 1 => some .trunk
  | 2 => some .filter
  | _ => none

/-- R71: 13 bytes. -/
def ValveEntry.encode (e : ValveEntry) : List Byte :=
  [flagByte e.enabled] ++ e.pos.encode ++ [byte e.demand, e.cls.code] ++ leBytes 2 e.lead ++ leBytes 2 e.minHold ++ leBytes 2 e.tail

def ValveEntry.decode : List Byte → Option ValveEntry
  | [en, pt, pb, pd0, pd1, dm, c, l0, l1, h0, h1, k0, k1] => do
    let enabled ← readFlag en
    let pos ← readPosition pt pb pd0 pd1
    let demand ← readRange 1 4 dm.toNat
    let cls ← readClass c
    let lead ← readRange 0 500 (u16 l0 l1)
    let minHold ← readRange 100 10000 (u16 h0 h1)
    let tail ← readRange 0 2000 (u16 k0 k1)
    pure { enabled, pos, demand, cls, lead, minHold, tail }
  | _ => none

def Policy.code : Policy → Byte
  | .strict => 0
  | .aged => 1

def readPolicy (b : Byte) : Option Policy :=
  match b.toNat with
  | 0 => some .strict
  | 1 => some .aged
  | _ => none

/-- R72: 8 bytes. -/
def SupplyEntry.encode (e : SupplyEntry) : List Byte :=
  [byte e.capacity, byte e.reserve, e.policy.code] ++ leBytes 2 e.ageLimit ++ leBytes 2 e.proveTime ++ [byte e.unexpTime]

/-- R72: the reserve is below the capacity of the same write. -/
def SupplyEntry.decode : List Byte → Option SupplyEntry
  | [c, r, p, a0, a1, f0, f1, u] => do
    let capacity ← readRange 1 16 c.toNat
    let reserve ← readRange 0 (capacity - 1) r.toNat
    let policy ← readPolicy p
    let ageLimit ← readRange 50 5000 (u16 a0 a1)
    let proveTime ← readRange 500 10000 (u16 f0 f1)
    let unexpTime ← readRange 1 60 u.toNat
    pure { capacity, reserve, policy, ageLimit, proveTime, unexpTime }
  | _ => none

def TripKind.code : TripKind → Byte
  | .none => 0
  | .tracksAtLeast => 1
  | .missedAtLeast => 2
  | .survivor => 3
  | .standingLight => 4
  | .velocityBelow => 5
  | .filterZoneAtLeast => 6
  | .hallZoneAtLeast => 7

def readTripKind (b : Byte) : Option TripKind :=
  match b.toNat with
  | 0 => some .none
  | 1 => some .tracksAtLeast
  | 2 => some .missedAtLeast
  | 3 => some .survivor
  | 4 => some .standingLight
  | 5 => some .velocityBelow
  | 6 => some .filterZoneAtLeast
  | 7 => some .hallZoneAtLeast
  | _ => none

/-- The greatest threshold each kind takes (R101). -/
def TripKind.maxThreshold : TripKind → Nat
  | .tracksAtLeast | .missedAtLeast => 2040
  | .filterZoneAtLeast | .hallZoneAtLeast => 3
  | .none | .survivor | .standingLight | .velocityBelow => 5000

def Action.code (a : Action) : Byte := byte a.rank

def readAction (b : Byte) : Option Action :=
  match b.toNat with
  | 0 => some .watch
  | 1 => some .divert
  | 2 => some .haltClear
  | 3 => some .haltNow
  | _ => none

/-- R101: 4 bytes. -/
def TripEntry.encode (e : TripEntry) : List Byte := [e.kind.code] ++ leBytes 2 e.threshold ++ [e.action.code]

def TripEntry.decode : List Byte → Option TripEntry
  | [k, t0, t1, a] => do
    let kind ← readTripKind k
    let threshold ← readRange 0 kind.maxThreshold (u16 t0 t1)
    let action ← readAction a
    pure { kind, threshold, action }
  | _ => none

def ZoneKind.code : ZoneKind → Byte
  | .hall => 0
  | .filter => 1
  | .yard => 2

def readZoneKind (b : Byte) : Option ZoneKind :=
  match b.toNat with
  | 0 => some .hall
  | 1 => some .filter
  | 2 => some .yard
  | _ => none

/-- R120: 2 bytes. -/
def ZoneEntry.encode (e : ZoneEntry) : List Byte := [e.kind.code, flagByte e.enabled]

def ZoneEntry.decode : List Byte → Option ZoneEntry
  | [k, en] => do
    let kind ← readZoneKind k
    let enabled ← readFlag en
    pure { kind, enabled }
  | _ => none

/-- Role and role index (R129). -/
def Role.encode : Role → List Byte
  | .none => [0, 255]
  | .call z => [1, byte z.val]
  | .heat z => [2, byte z.val]
  | .flow => [3, 255]
  | .fan t => [4, byte t.val]
  | .gate t => [5, byte t.val]
  | .door d => [6, byte d.val]
  | .key => [7, 255]

/-- The role index must fit the role carried in the same write (R129). -/
def readRole (r i : Byte) : Option Role :=
  match r.toNat with
  | 0 => if i = 255 then some .none else none
  | 1 => (readIndex 16 i).map .call
  | 2 => (readIndex 16 i).map .heat
  | 3 => if i = 255 then some .flow else none
  | 4 => (readIndex 4 i).map .fan
  | 5 => (readIndex 4 i).map .gate
  | 6 => (readIndex 16 i).map .door
  | 7 => if i = 255 then some .key else none
  | _ => none

def Sense.code : Sense → Byte
  | .activeHigh => 0
  | .activeLow => 1
  | .rising => 2
  | .falling => 3

def readSense (b : Byte) : Option Sense :=
  match b.toNat with
  | 0 => some .activeHigh
  | 1 => some .activeLow
  | 2 => some .rising
  | 3 => some .falling
  | _ => none

/-- An edge sense belongs to role CALL alone (R129). -/
def senseFits (role : Role) (sense : Sense) : Bool :=
  match sense, role with
  | .rising, .call _ | .falling, .call _ => true
  | .rising, _ | .falling, _ => false
  | _, _ => true

/-- R129: 5 bytes. -/
def InputEntry.encode (e : InputEntry) : List Byte := e.role.encode ++ [e.sense.code] ++ leBytes 2 e.debounce

def InputEntry.decode : List Byte → Option InputEntry
  | [r, i, sn, d0, d1] => do
    let role ← readRole r i
    let sense ← readSense sn
    let debounce ← readRange 0 1000 (u16 d0 d1)
    if senseFits role sense then pure { role, sense, debounce } else none
  | _ => none

/-- R138: 7 bytes. -/
def DoorEntry.encode (e : DoorEntry) : List Byte :=
  [byte e.zoneA.val, optByte e.zoneB, e.level.code, byte e.delay, optByte e.interlock, byte e.closeTimeout, flagByte e.enabled]

def DoorEntry.decode : List Byte → Option DoorEntry
  | [a, b, l, d, t, c, en] => do
    let zoneA ← readIndex 16 a
    let zoneB ← readOptIndex 16 b
    let level ← if l = 2 then some Level.alert else if l = 3 then some Level.fire else none
    let delay ← readRange 0 60 d.toNat
    let interlock ← readOptIndex 4 t
    let closeTimeout ← readRange 2 60 c.toNat
    let enabled ← readFlag en
    pure { zoneA, zoneB, level, delay, interlock, closeTimeout, enabled }
  | _ => none

/-- R154: 7 bytes. -/
def SirenEntry.encode (e : SirenEntry) : List Byte :=
  leBytes 2 e.zones.toNat ++ [optByte e.watchPattern, optByte e.alertPattern, optByte e.firePattern, optByte e.partner,
    flagByte e.enabled]

def SirenEntry.decode : List Byte → Option SirenEntry
  | [z0, z1, w, a, f, p, en] => do
    let watchPattern ← readOptIndex 8 w
    let alertPattern ← readOptIndex 8 a
    let firePattern ← readOptIndex 8 f
    let partner ← readOptIndex 8 p
    let enabled ← readFlag en
    pure { zones := BitVec.ofNat 16 (u16 z0 z1), watchPattern, alertPattern, firePattern, partner, enabled }
  | _ => none

/-- A slot below the step count: output state 0 or 1, duration unit 1 to 100 (R155). -/
def Slot.valid (sl : Slot) : Bool := (sl.out = 0 || sl.out = 1) && 1 ≤ sl.units.toNat && sl.units.toNat ≤ 100

/-- R155: 33 bytes. -/
def PatternEntry.encode (e : PatternEntry) : List Byte := byte e.count :: e.slots.toList.flatMap (fun sl => [sl.out, sl.units])

/-- The step slots of a PATTERN entry, two bytes each. -/
def readSlots : List Byte → List Slot
  | o :: u :: rest => { out := o, units := u } :: readSlots rest
  | _ => []

/-- Slots at and beyond the step count are not checked (R155). -/
def PatternEntry.decode : List Byte → Option PatternEntry
  | [] => none
  | c :: rest =>
    if h : rest.length = 32 ∧ (readSlots rest).length = 16 then
      if c.toNat ≤ 16 ∧ ((readSlots rest).take c.toNat).all Slot.valid then
        some { count := c.toNat, slots := ⟨(readSlots rest).toArray, by simpa using h.2⟩ }
      else none
    else none

/-- R190: 17 bytes. -/
def GlobalEntry.encode (e : GlobalEntry) : List Byte :=
  leBytes 2 e.holdTime ++ [byte e.fillMark] ++ leBytes 2 e.startGap ++ leBytes 2 e.samplerN ++ leBytes 2 e.b1 ++ leBytes 2 e.b2
    ++ leBytes 2 e.b3 ++ leBytes 2 e.dutyInterval ++ leBytes 2 e.testWindow

/-- R190: b1 < b2 < b3 within the same write. -/
def GlobalEntry.decode : List Byte → Option GlobalEntry
  | [h0, h1, fm, g0, g1, n0, n1, x0, x1, y0, y1, z0, z1, d0, d1, w0, w1] => do
    let holdTime ← readRange 0 1000 (u16 h0 h1)
    let fillMark ← readRange 1 64 fm.toNat
    let startGap ← readRange 0 2000 (u16 g0 g1)
    let samplerN ← readRange 16 4096 (u16 n0 n1)
    let b1 ← readRange 1 4095 (u16 x0 x1)
    let b2 ← readRange 1 4095 (u16 y0 y1)
    let b3 ← readRange 1 4095 (u16 z0 z1)
    let dutyInterval ← readRange 100 5000 (u16 d0 d1)
    let testWindow ← readRange 50 500 (u16 w0 w1)
    if b1 < b2 ∧ b2 < b3 then
      pure { holdTime, fillMark, startGap, samplerN, b1, b2, b3, dutyInterval, testWindow }
    else none
  | _ => none

/-! ### Report records (R183) -/

def SprayEvent.code : SprayEvent → Byte
  | .opened => 0
  | .closed => 1
  | .missed => 2

def LoopFault.code : LoopFault → Byte
  | .openLoop => 2
  | .shortLoop => 3

def LoadFault.code : LoadFault → Byte
  | .openLoad => 8
  | .shortLoad => 9

/-- Source kind, index and fault code. -/
def FaultKind.encode : FaultKind → List Byte
  | .velocity t => [0, byte t.val, 1]
  | .station st c => [1, byte st.val, LoopFault.code c]
  | .noFlow => [2, 0, 4]
  | .flowUnexpected => [2, 0, 5]
  | .fan t => [3, byte t.val, 6]
  | .door d => [4, byte d.val, 7]
  | .siren i c => [5, byte i.val, LoadFault.code c]
  | .configInvalid => [6, 0, 10]
  | .storeInvalid => [6, 0, 11]

def TestKind.encode : TestKind → List Byte
  | .head st => [0, byte st.val]
  | .spray v => [1, byte v.val]
  | .siren i => [2, byte i.val]

/-- The kind code of a record. -/
def Body.kindCode : Body → Byte
  | .detect .. => 1
  | .trackEnd .. => 2
  | .spray .. => 3
  | .trunkState .. => 4
  | .zoneLevel .. => 5
  | .doorState .. => 6
  | .sirenState .. => 7
  | .fault .. => 8
  | .input .. => 9
  | .testResult .. => 10
  | .sampleReady => 11
  | .storeDone .. => 12

/-- The body fields of a record. -/
def Body.encode : Body → List Byte
  | .detect st t peak len id => [byte st.val] ++ timeBytes t ++ leBytes 2 peak ++ leBytes 2 len ++ [id]
  | .trackEnd id t o sightings passes => [id, byte t.val, o.code, byte sightings, byte passes]
  | .spray v ev ls lt merged op cl =>
    [byte v.val, ev.code, byte (packBits [ls, lt]), byte merged] ++ timeBytes op ++ timeBytes cl
  | .trunkState t old new c => [byte t.val, old.code, new.code, c.code]
  | .zoneLevel z l c cs => [byte z.val, l.code, c.code, cs.code]
  | .doorState d st => [byte d.val, st.code]
  | .sirenState i st p => [byte i.val, st.code, optByte p]
  | .fault k set => k.encode ++ [flagByte set]
  | .input i a => [byte i.val, flagByte a]
  | .testResult k r => k.encode ++ [r.code]
  | .sampleReady => []
  | .storeDone p => [if p then StoreState.pass.code else StoreState.fail.code]

/-- A record on the link: kind, body length, time of appending, body. -/
def Record.encode (r : Record) : List Byte :=
  [r.body.kindCode, byte r.body.encode.length] ++ timeBytes r.time ++ r.body.encode

/-- The bytes of a record on the link. -/
def Record.size (r : Record) : Nat := r.encode.length

/-! ### The frame check (R171) -/

/-- One bit of the CRC-8 register: shift left, and fold in x^8 + x^2 + x + 1 when the top bit leaves. -/
def crcShift (c : Byte) : Byte := if c.msb then (c <<< 1) ^^^ 0x07 else c <<< 1

/-- One covered byte, most significant bit first. -/
def crcByte (c b : Byte) : Byte :=
  crcShift (crcShift (crcShift (crcShift (crcShift (crcShift (crcShift (crcShift (c ^^^ b))))))))

/-- The CRC over the bytes from LEN to the last payload byte; the register starts at 0xFF and is not inverted. -/
def crc8 (bytes : List Byte) : Byte := bytes.foldl crcByte 0xFF

end Sys2Proof.Machine
end

