-- ==== Sys2Proof/Machine/Ops.lean ====
section
/-! DEFINITION. Shared operations: comparison of times (R1), reading and replacing one entry of a
block's state, and the report queue and counter bank that every block writes to (chapter 10). -/

namespace Sys2Proof.Machine

/-! ### Times (R1) -/

/-- Time `a` is later than time `b`: `a - b`, read as signed, is greater than 0. -/
def later (a b : Time) : Bool := 0 < (a - b).toNat && (a - b).toNat < 2 ^ 31

/-- The counter `now` has reached the expiry `e`: `e` is not later than `now`. -/
def reached (now e : Time) : Bool := !later e now

/-- The deadline `d` has passed at `now`. -/
def passed (now d : Time) : Bool := later now d

/-- A running timer has expired; a stopped one has not. -/
def expired (now : Time) : Option Time → Bool
  | none => false
  | some e => reached now e

/-- The time `ms` milliseconds after `t`. -/
def after (t : Time) (ms : Nat) : Time := t + BitVec.ofNat 32 ms

/-- Seconds as milliseconds. -/
def seconds (n : Nat) : Nat := n * 1000

def laterOf (a b : Time) : Time := if later b a then b else a

def earlierOf (a b : Time) : Time := if later a b then b else a

/-- A count that stays at its greatest value. -/
def bump (limit n : Nat) : Nat := if n < limit then n + 1 else n

/-! ### Index lists, in rising index -/

def trunks4 : List (Fin 4) := [0, 1, 2, 3]
def slots6 : List (Fin 6) := [0, 1, 2, 3, 4, 5]
def sirens8 : List (Fin 8) := [0, 1, 2, 3, 4, 5, 6, 7]
def valves12 : List (Fin 12) := [0, 1, 2, 3, 4, 5, 6, 7, 8, 9, 10, 11]
def all16 : List (Fin 16) := [0, 1, 2, 3, 4, 5, 6, 7, 8, 9, 10, 11, 12, 13, 14, 15]
def all24 : List (Fin 24) :=
  [0, 1, 2, 3, 4, 5, 6, 7, 8, 9, 10, 11, 12, 13, 14, 15, 16, 17, 18, 19, 20, 21, 22, 23]
def inputs32 : List (Fin 32) :=
  [0, 1, 2, 3, 4, 5, 6, 7, 8, 9, 10, 11, 12, 13, 14, 15, 16, 17, 18, 19, 20, 21, 22, 23, 24, 25, 26, 27, 28, 29, 30, 31]

/-- `f` for each member in order, each on the state the one before it left. -/
def forEach {α : Type} (l : List α) (f : α → State → State) (s : State) : State := l.foldl (fun s a => f a s) s

/-! ### Reading and replacing one entry -/

def State.trunkEntry (s : State) (t : Fin 4) : TrunkEntry := s.cfs.tables.trunk[t]
def State.branchEntry (s : State) (b : Fin 16) : BranchEntry := s.cfs.tables.branch[b]
def State.stationEntry (s : State) (i : Fin 16) : StationEntry := s.cfs.tables.station[i]
def State.valveEntry (s : State) (v : Fin 12) : ValveEntry := s.cfs.tables.valve[v]
def State.supplyEntry (s : State) : SupplyEntry := s.cfs.tables.supply
def State.zoneEntry (s : State) (z : Fin 16) : ZoneEntry := s.cfs.tables.zone[z]
def State.inputEntry (s : State) (i : Fin 32) : InputEntry := s.cfs.tables.input[i]
def State.doorEntry (s : State) (d : Fin 16) : DoorEntry := s.cfs.tables.door[d]
def State.sirenEntry (s : State) (i : Fin 8) : SirenEntry := s.cfs.tables.siren[i]
def State.patternEntry (s : State) (p : Fin 8) : PatternEntry := s.cfs.tables.pattern[p]
def State.globalEntry (s : State) : GlobalEntry := s.cfs.tables.global

/-- Entry trunk × 6 + slot of the TRIP table (R101). -/
def tripIndex (t : Fin 4) (slot : Fin 6) : Fin 24 := ⟨t.val * 6 + slot.val, by omega⟩

def State.tripEntry (s : State) (t : Fin 4) (slot : Fin 6) : TripEntry := s.cfs.tables.trip[tripIndex t slot]

def State.air (s : State) (t : Fin 4) : TrunkAir := s.afm[t]
def State.station (s : State) (i : Fin 16) : Station := s.dfe.stations[i]
def State.valve (s : State) (v : Fin 12) : Valve := s.spa.valves[v]
def State.trunk (s : State) (t : Fin 4) : Trunk := s.tkc.trunks[t]
def State.zone (s : State) (z : Fin 16) : Zone := s.znt[z]
def State.input (s : State) (i : Fin 32) : Input := s.fiu[i]
def State.door (s : State) (d : Fin 16) : Door := s.drc[d]
def State.siren (s : State) (i : Fin 8) : Siren := s.srs.sirens[i]

def State.setAir (s : State) (t : Fin 4) (x : TrunkAir) : State := { s with afm := s.afm.set t x }
def State.setStation (s : State) (i : Fin 16) (x : Station) : State :=
  { s with dfe := { s.dfe with stations := s.dfe.stations.set i x } }
def State.setTracks (s : State) (l : List Track) : State := { s with trc := { s.trc with tracks := l } }
def State.setValve (s : State) (v : Fin 12) (x : Valve) : State := { s with spa := { s.spa with valves := s.spa.valves.set v x } }
def State.setTrunk (s : State) (t : Fin 4) (x : Trunk) : State := { s with tkc := { s.tkc with trunks := s.tkc.trunks.set t x } }
def State.setZone (s : State) (z : Fin 16) (x : Zone) : State := { s with znt := s.znt.set z x }
def State.setInput (s : State) (i : Fin 32) (x : Input) : State := { s with fiu := s.fiu.set i x }
def State.setDoor (s : State) (d : Fin 16) (x : Door) : State := { s with drc := s.drc.set d x }
def State.setSiren (s : State) (i : Fin 8) (x : Siren) : State := { s with srs := { s.srs with sirens := s.srs.sirens.set i x } }
def State.setTables (s : State) (x : Tables) : State := { s with cfs := { s.cfs with tables := x } }
def State.setBank (s : State) (x : Bank) : State := { s with rpq := { s.rpq with bank := x } }

/-! ### The report queue (R182, R184, R185) -/

/-- The records RPQ marks urgent (R184). `rose` says of a ZONE_LEVEL record that its latched level rose. -/
def Body.urgent (rose : Bool) : Body → Bool
  | .zoneLevel _ latched _ _ => rose && (latched == .alert || latched == .fire)
  | .trunkState _ _ .stopping _ => true
  | .trunkState _ _ .halt (.trip _) => true
  | .trunkState _ _ .halt .gateFault => true
  | .trackEnd _ _ .survived _ _ => true
  | .spray _ .missed _ _ _ _ _ => true
  | .fault _ set => set
  | _ => false

/-- The level of ATTN (R185): high while the queue is not empty and it holds an urgent record, or at
least the fill mark of records, or the hold timer has expired. -/
def attnLevel (r : Rpq) (fillMark : Nat) : Bool :=
  !r.queue.isEmpty && (r.queue.any (·.urgent) || fillMark ≤ r.queue.length || r.holdTimer == .expired)

/-- ATTN evaluated anew (R185). -/
def evalAttn (s : State) : State := { s with rpq := { s.rpq with attn := attnLevel s.rpq s.globalEntry.fillMark } }

/-- The hold timer started at `now`; a hold time of 0 is expired at once (R185). -/
def startHold (now : Time) (hold : Nat) : HoldTimer := if hold = 0 then .expired else .running now (after now hold)

/-- The queue without its oldest record whose urgent mark is clear; `none` when every record is urgent (R184). -/
def dropOrdinary : List Record → Option (List Record)
  | [] => none
  | r :: rest => if r.urgent then (dropOrdinary rest).map (r :: ·) else some rest

/-- Joining the queue: with overflow when it holds 64 records (R184), and with the hold timer
started by the record that joins an empty queue (R185). -/
def joinQueue (rec : Record) (now : Time) (hold : Nat) (r : Rpq) : Rpq :=
  if r.queue.length < 64 then
    { r with queue := r.queue ++ [rec], holdTimer := if r.queue.isEmpty then startHold now hold else r.holdTimer }
  else
    match dropOrdinary r.queue with
    | some q => { r with queue := q ++ [rec], dropped := bump 255 r.dropped }
    | none => { r with dropped := bump 255 r.dropped }

/-- A record appended at the present time with its urgent mark (R182, R184), and ATTN evaluated. -/
def appendMarked (urgent : Bool) (b : Body) (s : State) : State :=
  evalAttn { s with rpq := joinQueue { time := s.time, urgent := urgent, body := b } s.time s.globalEntry.holdTime s.rpq }

/-- A record other than a rise of a latched level appended (R182). -/
def append (b : Body) (s : State) : State := appendMarked (b.urgent false) b s

/-- The ZONE_LEVEL record of a rise of a latched level appended (R123, R184). -/
def appendRise (b : Body) (s : State) : State := appendMarked (b.urgent true) b s

/-! ### The counter bank (R187) -/

def countStation (i : Fin 16) (f : StationCounters → StationCounters) (s : State) : State :=
  s.setBank { s.rpq.bank with station := s.rpq.bank.station.set i (f s.rpq.bank.station[i]) }

def countValve (v : Fin 12) (f : ValveCounters → ValveCounters) (s : State) : State :=
  s.setBank { s.rpq.bank with valve := s.rpq.bank.valve.set v (f s.rpq.bank.valve[v]) }

def countTrunk (t : Fin 4) (f : TrunkCounters → TrunkCounters) (s : State) : State :=
  s.setBank { s.rpq.bank with trunk := s.rpq.bank.trunk.set t (f s.rpq.bank.trunk[t]) }

/-- A detection counted in the band its peak falls in (R187). -/
def countBand (g : GlobalEntry) (peak : Nat) (c : StationCounters) : StationCounters :=
  if peak < g.b1 then { c with band0 := c.band0 + 1 }
  else if peak < g.b2 then { c with band1 := c.band1 + 1 }
  else if peak < g.b3 then { c with band2 := c.band2 + 1 }
  else { c with band3 := c.band3 + 1 }

/-- A track's end counted in the one counter of its outcome (R66, R187). -/
def countOutcome (o : TrackOutcome) (c : TrunkCounters) : TrunkCounters :=
  match o with
  | .active => c
  | .extinguished => { c with extinguished := c.extinguished + 1 }
  | .vanished => { c with vanished := c.vanished + 1 }
  | .unconfirmed => { c with unconfirmed := c.unconfirmed + 1 }
  | .survived => { c with survived := c.survived + 1 }
  | .discarded => { c with discarded := c.discarded + 1 }

/-! ### Links to the host -/

/-- What a block answers to a request: its state after the request, the result and the payload of the reply (R175). -/
structure Answer where
  st : State
  result : Result
  payload : List Byte

/-- A request not served: the state as it was, and no payload (R175). -/
def Answer.reject (r : Result) (s : State) : Answer := { st := s, result := r, payload := [] }

/-- A request served with no payload. -/
def Answer.ok (s : State) : Answer := { st := s, result := .ok, payload := [] }

/-- A request served with a payload. -/
def Answer.give (payload : List Byte) (s : State) : Answer := { st := s, result := .ok, payload := payload }

end Sys2Proof.Machine
end

