-- ==== Sys2Proof/Machine/Flags.lean ====
section
/-! DEFINITION. Every flag, level and decision the part computes from its state, as functions that
change nothing: positions (chapter 1), windows and schedules (chapter 3), grants (chapter 4), trip
entries and targets (chapter 5), causes and active states (chapter 6), triggers (chapter 7),
selected levels and outputs (chapter 8). -/

namespace Sys2Proof.Machine

/-! ### Positions (R7 to R9) -/

/-- `p` is downstream of `q`, on the BRANCH table as it stands (R8). -/
def downstream (s : State) (p q : Position) : Bool :=
  decide (p.trunk = q.trunk) && decide (p.dist < q.dist) &&
    (decide (p.branch = q.branch) ||
      match p.branch, q.branch with
      | none, some b => decide (p.dist ≤ (s.branchEntry b).junction)
      | _, _ => false)

/-- The duct distance from `q` to a point `p` downstream of it, or at it (R9). -/
def ductDistance (q p : Position) : Nat := q.dist - p.dist

/-- The zone of a position: the hall zone of its branch, or the filter zone of its trunk (R7). -/
def positionZone (s : State) (p : Position) : Fin 16 :=
  match p.branch with
  | some b => (s.branchEntry b).hallZone
  | none => (s.trunkEntry p.trunk).filterZone

def stationTrunk (s : State) (i : Fin 16) : Fin 4 := (s.stationEntry i).pos.trunk
def stationZone (s : State) (i : Fin 16) : Fin 16 := positionZone s (s.stationEntry i).pos
def valveTrunk (s : State) (v : Fin 12) : Fin 4 := (s.valveEntry v).pos.trunk

/-! ### STALLED (R16) -/

/-- STALLED after a test of `vf`, with 50 cm/s of hysteresis. -/
def stalledAfter (vStall vf : Nat) (old : Bool) : Bool :=
  if vf < vStall then true else if vStall + 50 ≤ vf then false else old

/-- v_f after a good reading `r`: one eighth of the difference, rounded by floor((d + 4) / 8) (R12). -/
def filterStep (vf r : Nat) : Nat := ((vf : Int) + ((r : Int) - (vf : Int) + 4) / 8).toNat

/-! ### Arrival windows and spray schedules (R44 to R48) -/

/-- Stage 1: the transit, at most 60000 ms (R44). -/
def transit (d vf : Nat) : Nat := min (d * 10000 / vf) 60000

/-- Stage 2: the early offset, rounded down (R45). -/
def earlyOffset (tr tol : Nat) : Nat := tr * (100 - tol) / 100

/-- Stage 2: the late offset, rounded up (R45). -/
def lateOffset (tr tol : Nat) : Nat := (tr * (100 + tol) + 99) / 100

/-- A spray request as TRC hands it to SPA (section 4.4). -/
structure SprayRequest where
  openTime : Time
  closeTime : Time
  lateStart : Bool
  track : Byte
  detected : Time
  transit : Nat
  early : Nat
deriving DecidableEq, Repr

/-- The spray schedule for a sighting at time `t` at station `i` with valve `v` (R46), or the stall case (R48). -/
def spraySchedule (s : State) (i : Fin 16) (v : Fin 12) (t : Time) (id : Byte) : SprayRequest :=
  let te := s.trunkEntry (stationTrunk s i)
  let air := s.air (stationTrunk s i)
  let ve := s.valveEntry v
  if air.stalled then
    { openTime := t, closeTime := after t te.stallHold, lateStart := false, track := id, detected := t, transit := 0, early := 0 }
  else
    let tr := transit (ductDistance (s.stationEntry i).pos ve.pos) air.vf
    let early := earlyOffset tr te.tolerance
    let openTime := if ve.lead < early then after t (early - ve.lead) else t
    { openTime := openTime
      closeTime := laterOf (after openTime ve.minHold) (after t (lateOffset tr te.tolerance + ve.tail))
      lateStart := tr < ve.lead
      track := id, detected := t, transit := tr, early := early }

/-- The window at station `next` for a sighting at station `last` at time `t` (R47), or the stall case (R48). -/
def arrivalWindow (s : State) (last : Fin 16) (t : Time) (next : Fin 16) : Expect :=
  let te := s.trunkEntry (stationTrunk s last)
  let air := s.air (stationTrunk s last)
  if air.stalled then { station := next, early := t, late := after t te.stallHold }
  else
    let tr := transit (ductDistance (s.stationEntry last).pos (s.stationEntry next).pos) air.vf
    { station := next, early := after t (earlyOffset tr te.tolerance), late := after t (lateOffset tr te.tolerance) }

/-- The window holds the time `u`, both bounds included (R47). -/
def Expect.holds (e : Expect) (u : Time) : Bool := !later e.early u && !later u e.late

/-- A station is healthy when its entry is enabled and it is not in FAULT (R50). -/
def healthy (s : State) (i : Fin 16) : Bool :=
  (s.stationEntry i).enabled && match (s.station i).scan with
    | .fault _ => false
    | _ => true

/-- The nearer of a candidate found so far and station `i`: the greater distance, the lower index on a tie (R50). -/
def nearer (s : State) (best : Option (Fin 16)) (i : Fin 16) : Option (Fin 16) :=
  match best with
  | none => some i
  | some b => if (s.stationEntry b).pos.dist < (s.stationEntry i).pos.dist then some i else some b

/-- The next station chosen from station `q`: the nearest healthy station downstream of it (R50). -/
def nextStation (s : State) (q : Fin 16) : Option (Fin 16) :=
  (all16.filter (fun i => healthy s i && downstream s (s.stationEntry i).pos (s.stationEntry q).pos)).foldl (nearer s) none

/-- Station `i` is its trunk's inlet station (R54): enabled, with its inlet field 1. -/
def isInlet (s : State) (i : Fin 16) : Bool := (s.stationEntry i).enabled && (s.stationEntry i).inlet

/-- The valve a sighting at station `i` asks for, when the three conditions of R49 hold. -/
def requestedValve (s : State) (i : Fin 16) : Option (Fin 12) :=
  match (s.stationEntry i).valve with
  | none => none
  | some v =>
    if (s.valveEntry v).enabled && (downstream s (s.valveEntry v).pos (s.stationEntry i).pos ||
        decide ((s.valveEntry v).pos = (s.stationEntry i).pos)) then some v
    else none

/-- Any track of trunk `t` exists (R42). -/
def hasTrack (s : State) (t : Fin 4) : Bool := s.trc.tracks.any (fun k => decide (k.trunk = t))

/-- Any track has station `i` as its next station (R42). -/
def awaited (s : State) (i : Fin 16) : Bool :=
  s.trc.tracks.any (fun k => match k.next with
    | some e => decide (e.station = i)
    | none => false)

/-! ### Grants (R77 to R80) -/

/-- A grant of `d` units with class `c` is possible (R77). -/
def grantPossible (s : State) (d : Nat) (c : ValveClass) : Bool :=
  decide (s.spa.units + d ≤ s.supplyEntry.capacity) &&
    (decide (c = .filter) || decide (s.spa.nonFilter + d ≤ s.supplyEntry.capacity - s.supplyEntry.reserve))

/-- Place in the STRICT class order: FILTER, TRUNK, BRANCH (R79). -/
def ValveClass.place : ValveClass → Nat
  | .filter => 0
  | .trunk => 1
  | .branch => 2

/-- The class place of valve `v` in a scan: under AGED a valve that has waited the age limit counts as FILTER (R80). -/
def scanPlace (s : State) (v : Fin 12) : Nat :=
  match (s.valve v).st with
  | .waiting _ since =>
    if s.supplyEntry.policy = .aged ∧ reached s.time (after since s.supplyEntry.ageLimit) then 0 else (s.valveEntry v).cls.place
  | _ => (s.valveEntry v).cls.place

/-- The open time of a valve's schedule, if it holds one. -/
def openTimeOf (s : State) (v : Fin 12) : Time :=
  match (s.valve v).st with
  | .scheduled sch => sch.openTime
  | .waiting sch _ => sch.openTime
  | .spraying sch _ _ _ => sch.openTime
  | _ => 0

/-- Valve `v` stands before valve `w` in a scan: class place, then earlier open time, then lower index (R79, R80). -/
def scanBefore (s : State) (v w : Fin 12) : Bool :=
  let pv := scanPlace s v
  let pw := scanPlace s w
  if pv < pw then true
  else if pw < pv then false
  else if later (openTimeOf s w) (openTimeOf s v) then true
  else if later (openTimeOf s v) (openTimeOf s w) then false
  else v.val < w.val

def insertScan (s : State) (v : Fin 12) : List (Fin 12) → List (Fin 12)
  | [] => [v]
  | w :: rest => if scanBefore s v w then v :: w :: rest else w :: insertScan s v rest

/-- Valves in the order of the supply's policy at this moment (R79, R80). -/
def scanOrder (s : State) (vs : List (Fin 12)) : List (Fin 12) := vs.foldr (insertScan s) []

def isWaiting (s : State) (v : Fin 12) : Bool :=
  match (s.valve v).st with
  | .waiting _ _ => true
  | _ => false

def isIdle (s : State) (v : Fin 12) : Bool := decide ((s.valve v).st = .idle)

/-- Some valve is not IDLE (R191 step 3). -/
def anyValveBusy (s : State) : Bool := valves12.any (fun v => !isIdle s v)

/-- Some valve is SCHEDULED, WAITING or OPEN (R191): a valve in TEST does not count. -/
def anyValveSpraying (s : State) : Bool :=
  valves12.any (fun v => match (s.valve v).st with
    | .idle | .test _ _ => false
    | _ => true)

/-! ### Trunks (R97 to R103, R116) -/

def Prot.isHalt : Prot → Bool
  | .halt _ => true
  | _ => false

/-- The fan output of each state (R97). -/
def Prot.fanOn : Prot → Bool
  | .halt _ => false
  | _ => true

/-- Machine stops are released in RUN, WATCH and DIVERT (R97). -/
def Prot.releasesMachines : Prot → Bool
  | .run | .watch | .divert => true
  | _ => false

/-- The gate output of each state, from the position it has (R97): `true` is divert. -/
def Prot.gate (gatePresent now : Bool) : Prot → Bool
  | .halt _ => gatePresent
  | .starting | .run | .watch => false
  | .divert => true
  | .stopping _ => now

/-- The machine-stop output of branch `b` (R97, R6): `true` is asserted. -/
def machineStopLevel (s : State) (b : Fin 16) : Bool :=
  !((s.branchEntry b).enabled && (s.trunkEntry (s.branchEntry b).trunk).enabled &&
    (s.trunk (s.branchEntry b).trunk).prot.releasesMachines)

/-- The level a trunk contributes to the TRUNK cause of its filter zone (R116). -/
def trunkLevel (s : State) (t : Fin 4) : Level :=
  match (s.trunk t).prot with
  | .watch => .watch
  | .divert => .alert
  | .stopping _ => .alert
  | .halt (.trip _) => .alert
  | .halt .gateFault => .alert
  | _ => .normal

/-- The count of a ring (R100). -/
def ringCount (r : Vector Nat 8) : Nat := r.toList.sum

/-- At least one station of the trunk has the STANDING condition (R29). -/
def standingOnTrunk (s : State) (t : Fin 4) : Bool :=
  all16.any (fun i => (s.station i).standing && decide (stationTrunk s i = t))

/-- Whether trip entry `slot` of trunk `t` is true (R102); a count or zone kind with threshold 0 is true
at all times, on a trunk without a hall zone too. -/
def tripTrue (s : State) (t : Fin 4) (slot : Fin 6) : Bool :=
  let e := s.tripEntry t slot
  match e.kind with
  | .none => false
  | .tracksAtLeast => e.threshold ≤ ringCount (s.trunk t).newRing
  | .missedAtLeast => e.threshold ≤ ringCount (s.trunk t).missedRing
  | .survivor => (s.trunk t).survivor
  | .standingLight => standingOnTrunk s t
  | .velocityBelow => (s.trunk t).prot.releasesMachines && decide ((s.air t).vf < e.threshold)
  | .filterZoneAtLeast => e.threshold ≤ (s.zone (s.trunkEntry t).filterZone).current.rank
  | .hallZoneAtLeast =>
    e.threshold == 0 || all16.any (fun b => (s.branchEntry b).enabled && decide ((s.branchEntry b).trunk = t) &&
      decide (e.threshold ≤ (s.zone (s.branchEntry b).hallZone).current.rank))

/-- The target so far, with one more slot read: a higher action takes its place (R103). -/
def raiseTarget (s : State) (t : Fin 4) (best : Option (Action × Fin 6)) (slot : Fin 6) : Option (Action × Fin 6) :=
  if tripTrue s t slot then
    match best with
    | none => some ((s.tripEntry t slot).action, slot)
    | some (a, d) => if a.rank < (s.tripEntry t slot).action.rank then some ((s.tripEntry t slot).action, slot) else some (a, d)
  else best

/-- The target and the deciding slot of a trunk (R103): the highest action among its true entries
and the lowest slot that has it; none when no entry is true, and for a disabled trunk (R117). -/
def target (s : State) (t : Fin 4) : Option (Action × Fin 6) :=
  if (s.trunkEntry t).enabled then slots6.foldl (raiseTarget s t) none else none

/-- The target is HALT_CLEAR or HALT_NOW (R110). -/
def targetHalts (s : State) (t : Fin 4) : Bool :=
  match target s t with
  | some (.haltClear, _) | some (.haltNow, _) => true
  | _ => false

/-- The run condition (R111): the FAN input is active and v_f is at least v_run. -/
def runCondition (s : State) (t : Fin 4) : Bool :=
  (s.trunk t).fanIn && decide ((s.trunkEntry t).vRun ≤ (s.air t).vf)

/-! ### Field inputs (R129 to R132) -/

/-- The debounced state at which an input of this sense is operated (R131). -/
def Sense.operated : Sense → Bool
  | .activeHigh | .rising => true
  | .activeLow | .falling => false

def Sense.isEdge : Sense → Bool
  | .rising | .falling => true
  | .activeHigh | .activeLow => false

/-- The active state (R131): the edge latch for an edge sense, the operated level otherwise. -/
def activeState (sense : Sense) (debounced latch : Bool) : Bool :=
  if sense.isEdge then latch else debounced == sense.operated

/-- The lowest-indexed input with role `r` (R132): the one handed to the receiver of that role. -/
def handedInput (s : State) (r : Role) : Option (Fin 32) := inputs32.find? (fun i => decide ((s.inputEntry i).role = r))

/-- The active state handed for role `r`: inactive when no input has it (R132). -/
def handedState (s : State) (r : Role) : Bool :=
  match handedInput s r with
  | some i => (s.input i).active
  | none => false

/-- At least one input of role `r` is active (R121). -/
def anyActive (s : State) (r : Role) : Bool := inputs32.any (fun i => decide ((s.inputEntry i).role = r) && (s.input i).active)

/-! ### Causes (R121) -/

/-- `l` while the condition holds, absent otherwise. -/
def levelIf (c : Bool) (l : Level) : Level := if c then l else .normal

/-- Zone `z` is the filter zone of an enabled trunk that satisfies `p`. -/
def filterZoneOf (s : State) (z : Fin 16) (p : Fin 4 → Bool) : Bool :=
  trunks4.any (fun t => (s.trunkEntry t).enabled && decide ((s.trunkEntry t).filterZone = z) && p t)

/-- The TRUNK cause of a zone: the highest level contributed by its enabled trunks (R116). -/
def trunkCause (s : State) (z : Fin 16) : Level :=
  trunks4.foldl (fun l t =>
    if (s.trunkEntry t).enabled && decide ((s.trunkEntry t).filterZone = z) then l.max (trunkLevel s t) else l) .normal

/-- The cause set of zone `z` as its sources stand; the MANUAL cause is the zone's own (R121, R128). -/
def causesOf (s : State) (z : Fin 16) : CauseSet :=
  { call := levelIf (anyActive s (.call z)) .fire
    heat := levelIf (anyActive s (.heat z)) .fire
    standing := levelIf (all16.any (fun i => (s.station i).standing && decide (stationZone s i = z))) .fire
    survivor := levelIf (filterZoneOf s z (fun t => (s.trunk t).survivor)) .fire
    trunk := trunkCause s z
    supply := levelIf (s.spa.supplyFault && filterZoneOf s z (fun _ => true)) .alert
    flowUnexpected := levelIf (s.spa.unexpRaised && filterZoneOf s z (fun _ => true)) .alert
    manual := (s.zone z).causes.manual }

/-- The highest level among the causes present (R122). -/
def CauseSet.top (c : CauseSet) : Level :=
  c.call.max (c.heat.max (c.standing.max (c.survivor.max (c.trunk.max (c.supply.max (c.flowUnexpected.max c.manual))))))

/-- The current level a zone takes from a cause set: a disabled zone's is NORMAL (R122). -/
def currentFrom (s : State) (z : Fin 16) (c : CauseSet) : Level := if (s.zoneEntry z).enabled then c.top else .normal

/-! ### Doors (R141, R142) -/

/-- The higher of the latched levels of the door's zones (R141). -/
def doorLevel (s : State) (d : Fin 16) : Level :=
  match (s.doorEntry d).zoneB with
  | none => (s.zone (s.doorEntry d).zoneA).latched
  | some b => (s.zone (s.doorEntry d).zoneA).latched.max (s.zone b).latched

/-- The level trigger (R141). -/
def levelTrigger (s : State) (d : Fin 16) : Bool := (s.doorEntry d).level.rank ≤ (doorLevel s d).rank

/-- The fan interlock is satisfied (R142). -/
def interlockSatisfied (s : State) (d : Fin 16) : Bool :=
  match (s.doorEntry d).interlock with
  | none => true
  | some t => !(s.trunkEntry t).enabled || (s.trunk t).fanQuiet

/-- The holder output of each state (section 7.2). -/
def DoorState.holderOn : DoorState → Bool
  | .held | .ready | .delayed _ _ | .waitFan _ => true
  | .released _ _ | .closed | .blocked | .disabled => false

/-- Door `d` adjoins zone `z` (R138). -/
def adjoins (s : State) (d z : Fin 16) : Bool :=
  decide ((s.doorEntry d).zoneA = z) || decide ((s.doorEntry d).zoneB = some z)

/-! ### Sirens (R156 to R159, R162) -/

/-- Zone `z` is in the siren's mask (R154). -/
def covers (e : SirenEntry) (z : Fin 16) : Bool := e.zones.getLsbD z.val

/-- The selected level: the highest latched level among the zones of the mask that are not silenced (R156). -/
def selectedLevel (s : State) (i : Fin 8) : Level :=
  all16.foldl (fun l z => if covers (s.sirenEntry i) z && !(s.zone z).silenced then l.max (s.zone z).latched else l) .normal

/-- The pattern a record gives for a level. -/
def SirenEntry.patternAt (e : SirenEntry) : Level → Option (Fin 8)
  | .normal => none
  | .watch => e.watchPattern
  | .alert => e.alertPattern
  | .fire => e.firePattern

/-- A pattern with 0 steps is silent (R155). -/
def isSilent (s : State) (p : Fin 8) : Bool := (s.patternEntry p).count == 0

/-- The wanted pattern (R156). -/
def wantedPattern (s : State) (i : Fin 8) : Option (Fin 8) :=
  if (s.sirenEntry i).enabled then
    match (s.sirenEntry i).patternAt (selectedLevel s i) with
    | none => none
    | some p => if isSilent s p then none else some p
  else none

/-- The partner that restrains siren `i`: none when its field is none or names the siren itself (R154). -/
def partnerOf (s : State) (i : Fin 8) : Option (Fin 8) :=
  match (s.sirenEntry i).partner with
  | none => none
  | some p => if p = i then none else some p

/-- The wanted output of a siren's current step; off in OFF and START_WAIT (R160, R162). -/
def SirenState.wantsOn : SirenState → Bool
  | .sounding _ _ w _ _ _ => w
  | .test _ _ w _ _ _ => w
  | _ => false

/-- The output of siren `i`: driven while its wanted output is on, its partner's output is not
driven and no LOAD_SHORT stands on it (R162). -/
def outputLevel (s : State) (i : Fin 8) : Bool :=
  (s.siren i).st.wantsOn && !decide ((s.siren i).fault = some .shortLoad) &&
    match partnerOf s i with
    | none => true
    | some p => !(s.siren p).output

def SirenState.isQueued : SirenState → Bool
  | .startWait _ => true
  | _ => false

/-- The start slot is free (R159). -/
def startSlotOpen (s : State) : Bool :=
  match s.srs.lastStart with
  | none => true
  | some l => reached s.time (after l s.globalEntry.startGap)

/-- The queue level of a queued siren (R158). -/
def queueLevel (s : State) (i : Fin 8) : Nat := if (s.siren i).wanted.isSome then (selectedLevel s i).rank else 0

/-- The member ranked first: the higher queue level, then the lower index (R158). -/
def firstQueued (s : State) : Option (Fin 8) :=
  (sirens8.filter (fun i => (s.siren i).st.isQueued)).foldl (fun best i =>
    match best with
    | none => some i
    | some b => if queueLevel s b < queueLevel s i then some i else some b) none

end Sys2Proof.Machine
end

