-- ==== Sys2Proof/Machine/Link.lean ====
section
/-! DEFINITION. The panel link up to the owners of requests (chapter 9): the request catalogue, the
checks before a request reaches its owner, and the reply. A request command is the completion of
its frame with a good CRC; the receiver returns to HUNT at it (R172, R174). -/

namespace Sys2Proof.Machine

/-- The kinds of the request catalogue (R179). -/
inductive ReqKind
  | id | stat | fetch | cntr | smpl | trks | inps | view | zack | hush | sound | zset | trun | thalt | dhold | dshut
  | htest | vtest | stest | cfgin | cfgout | tread | twrite | store | rstrt
deriving DecidableEq, Repr

/-- The code of a kind (R179). -/
def ReqKind.code : ReqKind → Byte
  | .id => 0x01
  | .stat => 0x02
  | .fetch => 0x03
  | .cntr => 0x04
  | .smpl => 0x05
  | .trks => 0x06
  | .inps => 0x07
  | .view => 0x08
  | .zack => 0x10
  | .hush => 0x11
  | .sound => 0x12
  | .zset => 0x13
  | .trun => 0x20
  | .thalt => 0x21
  | .dhold => 0x30
  | .dshut => 0x31
  | .htest => 0x40
  | .vtest => 0x41
  | .stest => 0x42
  | .cfgin => 0x50
  | .cfgout => 0x51
  | .tread => 0x52
  | .twrite => 0x53
  | .store => 0x54
  | .rstrt => 0x55

/-- The kind a code names, if it is in the catalogue. -/
def readKind (b : Byte) : Option ReqKind :=
  match b.toNat with
  | 0x01 => some .id
  | 0x02 => some .stat
  | 0x03 => some .fetch
  | 0x04 => some .cntr
  | 0x05 => some .smpl
  | 0x06 => some .trks
  | 0x07 => some .inps
  | 0x08 => some .view
  | 0x10 => some .zack
  | 0x11 => some .hush
  | 0x12 => some .sound
  | 0x13 => some .zset
  | 0x20 => some .trun
  | 0x21 => some .thalt
  | 0x30 => some .dhold
  | 0x31 => some .dshut
  | 0x40 => some .htest
  | 0x41 => some .vtest
  | 0x42 => some .stest
  | 0x50 => some .cfgin
  | 0x51 => some .cfgout
  | 0x52 => some .tread
  | 0x53 => some .twrite
  | 0x54 => some .store
  | 0x55 => some .rstrt
  | _ => none

/-- The entry length of each table, in table id order (R179, R190). -/
def entryLength : Nat → Option Nat
  | 0 => some 23
  | 1 => some 5
  | 2 => some 15
  | 3 => some 13
  | 4 => some 8
  | 5 => some 4
  | 6 => some 2
  | 7 => some 5
  | 8 => some 7
  | 9 => some 7
  | 10 => some 33
  | 11 => some 17
  | _ => none

/-- A TWRITE payload is 2 bytes and the entry of the table it names; under a table id above 11 any
length from 2 bytes passes (R179). -/
def twriteLengthOk : List Byte → Bool
  | id :: _ :: entry =>
    match entryLength id.toNat with
    | some n => entry.length == n
    | none => true
  | _ => false

/-- The payload lengths allowed for a kind (R179). -/
def ReqKind.lengthOk : ReqKind → List Byte → Bool
  | .id, p | .stat, p | .fetch, p | .inps, p | .cfgin, p | .cfgout, p | .store, p | .rstrt, p => p.length == 0
  | .smpl, p | .trks, p | .zack, p | .hush, p | .sound, p | .trun, p | .dhold, p | .dshut, p | .htest, p => p.length == 1
  | .zset, p | .thalt, p | .tread, p => p.length == 2
  | .cntr, p | .vtest, p => p.length == 3
  | .stest, p => p.length == 4
  | .view, p => p.length == 0 || p.length == 2
  | .twrite, p => twriteLengthOk p

/-- The part modes a kind is served in (R176). -/
def ReqKind.servedIn : ReqKind → Mode → Bool
  | .id, _ | .stat, _ => true
  | .cfgin, m => m == .armed
  | .cfgout, m | .twrite, m | .store, m | .rstrt, m => m == .configure
  | _, m => m != .start

/-- A reply begins (R170, R177). -/
def sendReply (kind tag : Byte) (r : Result) (payload : List Byte) (s : State) : State :=
  { s with lnk := { s.lnk with tx := some { kind := kind ||| 0x80, tag := tag, result := r, payload := payload, started := s.time } } }

/-- The receiver in HUNT, with no frame in progress. -/
def toHunt (s : State) : State := { s with lnk := { s.lnk with rx := .hunt } }

/-- A complete frame discarded while a reply is being sent, and counted (R174 step 1). -/
def discardFrame (s : State) : State := { s with lnk := { s.lnk with discarded := bump 65535 s.lnk.discarded } }

/-- A request with a catalogued kind at its arrival: length, mode, then its owner (R175), and the reply. -/
def serveRequest (k : ReqKind) (owner : List Byte → State → Answer) (tag : Byte) (payload : List Byte) (s : State) : State :=
  if k.lengthOk payload then
    if k.servedIn s.cfs.mode then
      sendReply k.code tag (owner payload s).result (owner payload s).payload (owner payload s).st
    else sendReply k.code tag .mode [] s
  else sendReply k.code tag .length [] s

/-- A RESTART is due: an RSTRT was accepted and its reply has been sent. It takes place at the end of
that reply, so a frame that completes now was in progress at it, and is abandoned without a reply (R181). -/
def restartDue (s : State) : Bool := s.lnk.restartPending && s.lnk.tx.isNone

/-- A complete frame with a good CRC whose request has this kind, tag and payload: discarded while a
reply is being sent (R174), abandoned at a RESTART (R181), served otherwise. -/
def takeRequest (k : ReqKind) (owner : List Byte → State → Answer) (tag : Byte) (payload : List Byte) (s : State) : State :=
  if s.lnk.tx.isSome then discardFrame (toHunt s)
  else if restartDue s then toHunt s
  else serveRequest k owner tag payload (toHunt s)

/-- The bytes a reply takes on the line: SYNC, LEN, KIND, TAG, RESULT, payload, CRC (R170). -/
def Reply.lineBytes (r : Reply) : Nat := r.payload.length + 6

/-- The reply frame as it is sent (R170, R171). -/
def Reply.frame (r : Reply) : List Byte :=
  let covered := [byte (r.payload.length + 3), r.kind, r.tag, r.result.code] ++ r.payload
  [0xA5] ++ covered ++ [crc8 covered]

/-- Whole milliseconds of the line time of `n` bytes: `n` × 10 bit times at 115,200 baud (R169, R177). -/
def lineMs (n : Nat) : Nat := n * 10 * 1000 / 115200

/-- A break: 1 ms at space returns the receiver to HUNT (R169). -/
def execLineBreak (s : State) : Host.Outcome State Fault Refusal := .next (toHunt s)

/-- A framing error abandons a frame in progress in LENGTH or BODY; in HUNT the character is lost (R169). -/
def execFramingError (s : State) : Host.Outcome State Fault Refusal := .next (toHunt s)

/-- A LEN byte of 0, 1 or 243 to 255 (R172). -/
def badLength (b : Byte) : Bool := b.toNat < 2 || 242 < b.toNat

/-- A bad LEN byte taken in LENGTH abandons the frame (R172); otherwise it does not arise. -/
def execBadLengthByte (b : Byte) (s : State) : Host.Outcome State Fault Refusal :=
  match s.lnk.rx with
  | .length _ => .next (if badLength b then toHunt s else s)
  | _ => .next s

/-- The time of the last byte of a frame in progress. -/
def Receiver.lastByte : Receiver → Option Time
  | .hunt => none
  | .length t => some t
  | .body _ _ t => some t

/-- The gap deadline of a frame in progress, 20 ms after its last byte, has passed (R173). -/
def gapPassed (s : State) : Bool :=
  match s.lnk.rx.lastByte with
  | none => false
  | some t => passed s.time (after t 20)

/-- The gap deadline passes, and the frame is abandoned (R173). -/
def execGapDeadline (s : State) : Host.Outcome State Fault Refusal := .next (if gapPassed s then toHunt s else s)

/-- A complete frame, `body` being its bytes from KIND to the last payload byte: its CRC (R171). -/
def frameCrc (body : List Byte) : Byte := crc8 (byte body.length :: body)

/-- A complete frame discarded without a reply: counted while a reply is being sent, and not counted
when its CRC fails (R174) or at a RESTART (R181). Any other good frame with the transmitter free is not
discarded, and the event does not arise. -/
def execFrameDiscard (body : List Byte) (crc : Byte) (s : State) : Host.Outcome State Fault Refusal :=
  .next (if s.lnk.tx.isSome then discardFrame (toHunt s)
    else if restartDue s || crc != frameCrc body then toHunt s
    else s)

/-- A good frame with a KIND outside the catalogue is answered UNKNOWN (R175 step 1); under a
catalogued KIND the event does not arise. -/
def execUnknownRequest (kind tag : Byte) (_payload : List Byte) (s : State) : Host.Outcome State Fault Refusal :=
  .next (match readKind kind with
    | some _ => s
    | none =>
      if s.lnk.tx.isSome then discardFrame (toHunt s)
      else if restartDue s then toHunt s
      else sendReply kind tag .unknown [] (toHunt s))

/-- The last stop bit of the reply can have been sent: its line time has run out (R177). -/
def replyDone (s : State) : Bool :=
  match s.lnk.tx with
  | none => false
  | some r => reached s.time (after r.started (lineMs r.lineBytes))

/-- The last stop bit of the reply is sent, and the transmitter is free (R177). -/
def execReplySent (s : State) : Host.Outcome State Fault Refusal :=
  .next (if replyDone s then { s with lnk := { s.lnk with tx := none } } else s)

/-- The ID reply (R179): vendor, part, revision, table capacities, queue and track table capacities. -/
def idPayload : List Byte :=
  leBytes 2 0x2C41 ++ leBytes 2 0x0716 ++ [3] ++ [4, 16, 16, 12, 1, 24, 16, 32, 16, 8, 8, 1] ++ [64, 32]

/-- ID changes no state (R179). -/
def serveId (_ : List Byte) (s : State) : Answer := .give idPayload s

def execIdRequest (tag : Byte) (payload : List Byte) (s : State) : Host.Outcome State Fault Refusal :=
  .next (takeRequest .id serveId tag payload s)

end Sys2Proof.Machine
end

