-- ==== Sys2Proof/Machine/Reports.lean ====
section
/-! DEFINITION. The requests of the report queue and counter bank (chapter 10), and STAT (R180). -/

namespace Sys2Proof.Machine

/-! ### FETCH (R186) and the hold timer (R185) -/

/-- The records a FETCH takes: at most `count` of them, of at most `room` bytes in all, from the head. -/
def takeRecords : Nat → Nat → List Record → List Record
  | 0, _, _ => []
  | _ + 1, _, [] => []
  | n + 1, room, r :: rest => if r.size ≤ room then r :: takeRecords n (room - r.size) rest else []

/-- The records of a FETCH of this queue: 16 records, 237 bytes. -/
def fetched (q : List Record) : List Record := takeRecords 16 237 q

/-- The hold timer after a FETCH: stopped when it emptied the queue, started again otherwise. -/
def holdAfterFetch (left : List Record) (s : State) : HoldTimer :=
  if left.isEmpty then .stopped else startHold s.time s.globalEntry.holdTime

/-- The queue after a FETCH (R185, R186). -/
def fetchQueue (s : State) : State :=
  let left := s.rpq.queue.drop (fetched s.rpq.queue).length
  evalAttn { s with rpq := { s.rpq with queue := left, dropped := 0, holdTimer := holdAfterFetch left s } }

def serveFetch (_ : List Byte) (s : State) : Answer :=
  let taken := fetched s.rpq.queue
  .give ([byte taken.length, byte s.rpq.dropped] ++ taken.flatMap Record.encode) (fetchQueue s)

def execFetch (tag : Byte) (payload : List Byte) (s : State) : Host.Outcome State Fault Refusal :=
  .next (takeRequest .fetch serveFetch tag payload s)

/-- The hold timer runs and its expiry is reached. -/
def holdDue (s : State) : Bool :=
  match s.rpq.holdTimer with
  | .running _ e => reached s.time e
  | .stopped | .expired => false

/-- The hold timer expires (R185). -/
def execHoldTimerExpiry (s : State) : Host.Outcome State Fault Refusal :=
  .next (if holdDue s then evalAttn { s with rpq := { s.rpq with holdTimer := .expired } } else s)

/-! ### CNTR (R188) -/

/-- A counter as it is carried: a 20-bit value in 4 bytes. -/
def countBytes (c : Count) : List Byte := leBytes 4 c.toNat

def StationCounters.encode (c : StationCounters) : List Byte :=
  countBytes c.band0 ++ countBytes c.band1 ++ countBytes c.band2 ++ countBytes c.band3 ++ countBytes c.standing
    ++ countBytes c.faults

def ValveCounters.encode (c : ValveCounters) : List Byte :=
  countBytes c.opens ++ countBytes c.late ++ countBytes c.missed ++ countBytes c.tests

def TrunkCounters.encode (c : TrunkCounters) : List Byte :=
  countBytes c.newTracks ++ countBytes c.extinguished ++ countBytes c.survived ++ countBytes c.vanished
    ++ countBytes c.unconfirmed ++ countBytes c.discarded ++ countBytes c.haltsByTrip

def clearStation (_ : StationCounters) : StationCounters :=
  { band0 := 0, band1 := 0, band2 := 0, band3 := 0, standing := 0, faults := 0 }

def clearValve (_ : ValveCounters) : ValveCounters := { opens := 0, late := 0, missed := 0, tests := 0 }

def clearTrunk (_ : TrunkCounters) : TrunkCounters :=
  { newTracks := 0, extinguished := 0, survived := 0, vanished := 0, unconfirmed := 0, discarded := 0, haltsByTrip := 0 }

/-- The snapshot of a counter group (R188); `none` for a group or index outside the bank. -/
def groupBytes (s : State) (group : Nat) (index : Byte) : Option (List Byte) :=
  match group with
  | 0 => (readIndex 16 index).map (fun i => (s.rpq.bank.station[i]).encode)
  | 1 => (readIndex 12 index).map (fun v => (s.rpq.bank.valve[v]).encode)
  | 2 => (readIndex 4 index).map (fun t => (s.rpq.bank.trunk[t]).encode)
  | _ => none

/-- Every counter of a group set to 0. -/
def clearGroup (group : Nat) (index : Byte) (s : State) : State :=
  match group with
  | 0 => match readIndex 16 index with
    | some i => countStation i clearStation s
    | none => s
  | 1 => match readIndex 12 index with
    | some v => countValve v clearValve s
    | none => s
  | 2 => match readIndex 4 index with
    | some t => countTrunk t clearTrunk s
    | none => s
  | _ => s

def serveCntr (payload : List Byte) (s : State) : Answer :=
  match payload with
  | [group, index, flag] =>
    match groupBytes s group.toNat index, readFlag flag with
    | some counters, some clear =>
      .give ([group, index] ++ counters) (if clear then clearGroup group.toNat index s else s)
    | _, _ => .reject .range s
  | _ => .reject .range s

def execCntr (tag : Byte) (payload : List Byte) (s : State) : Host.Outcome State Fault Refusal :=
  .next (takeRequest .cntr serveCntr tag payload s)

/-! ### STAT (R180) -/

/-- The state and cause of a trunk as STAT shows them: HALT with cause START for every trunk in START (R119). -/
def statTrunk (s : State) (t : Fin 4) : List Byte :=
  let x := s.trunk t
  [x.prot.phase.code, x.prot.cause.code,
   byte (packBits [(s.trunkEntry t).enabled, (s.air t).stalled, x.fanQuiet, x.survivor])] ++ leBytes 2 (s.air t).vf

def statStation (s : State) (i : Fin 16) : List Byte := [(s.station i).scan.code, (s.station i).lastResult.code]

/-- The flags of a zone; in START every flag is shown clear (R136, log entry 9). -/
def zoneFlags (s : State) (z : Fin 16) : Byte :=
  let shown := decide (s.cfs.mode ≠ .start)
  byte (packBits [shown && (s.zoneEntry z).enabled, shown && (s.zone z).ack, shown && (s.zone z).silenced]
    + 8 * (s.zoneEntry z).kind.code.toNat)

def statZone (s : State) (z : Fin 16) : List Byte :=
  let x := s.zone z
  [x.latched.code, x.current.code, zoneFlags s z, x.hush.code, x.causes.code]

def statDoor (s : State) (d : Fin 16) : Byte := (s.door d).st.phase.code

def statSiren (s : State) (i : Fin 8) : List Byte := [(s.siren i).st.phase.code, optByte (s.siren i).st.pattern]

/-- Two-bit fields, member `i` in bits 2i and 2i + 1. -/
def packPairs : List Nat → Nat
  | [] => 0
  | n :: rest => n + 4 * packPairs rest

def VelStage.code : VelStage → Nat
  | .clear => 0
  | .hold => 1
  | .fallback => 2

def sirenFaultCode : Option LoadFault → Nat
  | none => 0
  | some .openLoad => 1
  | some .shortLoad => 2

def isFaulted (s : State) (i : Fin 16) : Bool :=
  match (s.station i).scan with
  | .fault _ => true
  | _ => false

def isBlocked (s : State) (d : Fin 16) : Bool :=
  match (s.door d).st with
  | .blocked => true
  | _ => false

/-- The active fault summary. -/
def faultSummary (s : State) : List Byte :=
  leBytes 2 (packBits (all16.map (isFaulted s)))
    ++ [byte (packPairs (trunks4.map (fun t => (s.air t).stage.code))),
        byte (packBits (trunks4.map (fun t => (s.trunk t).fanFault))),
        byte (packBits [s.spa.supplyFault, s.spa.unexpRaised])]
    ++ leBytes 2 (packBits (all16.map (isBlocked s)))
    ++ leBytes 2 (packPairs (sirens8.map (fun i => sirenFaultCode (s.siren i).fault)))

/-- The status block, 182 bytes. -/
def statPayload (s : State) : List Byte :=
  [s.cfs.mode.code, flagByte s.cfs.key]
    ++ trunks4.flatMap (statTrunk s)
    ++ all16.flatMap (statStation s)
    ++ all16.flatMap (statZone s)
    ++ all16.map (statDoor s)
    ++ sirens8.flatMap (statSiren s)
    ++ [byte s.rpq.queue.length, byte s.rpq.dropped, s.spa.sampler.code, s.cfs.storeState.code, flagByte s.cfs.storeLock]
    ++ faultSummary s
    ++ leBytes 2 s.lnk.discarded

/-- STAT changes no state (R180). -/
def serveStat (_ : List Byte) (s : State) : Answer := .give (statPayload s) s

def execStat (tag : Byte) (payload : List Byte) (s : State) : Host.Outcome State Fault Refusal :=
  .next (takeRequest .stat serveStat tag payload s)

end Sys2Proof.Machine
end

