-- ==== Sys2Proof/Machine/Scans.lean ====
section
/-! DEFINITION. The scan state a station takes (R23, R25), and the moves between SCAN_CONT and
SCAN_DUTY that follow a change of a trunk's state. -/

namespace Sys2Proof.Machine

/-- The rows of the table of R23. -/
inductive Pace
  | off
  | cont
  | duty
deriving DecidableEq, Repr

/-- The scan state selected for a station that is not in TEST and not in FAULT (R23). -/
def selectedPace (s : State) (i : Fin 16) : Pace :=
  if (s.stationEntry i).enabled && (s.trunkEntry (stationTrunk s i)).enabled && s.dfe.released then
    if (s.trunk (stationTrunk s i)).prot.isHalt then .duty else .cont
  else .off

/-- SCAN_DUTY entered now: its first window opens at once (R25). -/
def dutyNow (s : State) : Scan := .duty s.time true (after s.time s.globalEntry.dutyInterval)

/-- The scan state of a pace, entered now. -/
def scanOf (s : State) : Pace → Scan
  | .off => .off
  | .cont => .cont
  | .duty => dutyNow s

/-- The state selected now, entered now. -/
def selectedScan (s : State) (i : Fin 16) : Scan := scanOf s (selectedPace s i)

/-- A station in a scanning state moves to the other one when the selection has changed row (R23,
R25); an open run carries on. -/
def repaceStation (i : Fin 16) (s : State) : State :=
  match (s.station i).scan, selectedPace s i with
  | .cont, .duty => s.setStation i { s.station i with scan := dutyNow s }
  | .duty _ _ _, .cont => s.setStation i { s.station i with scan := .cont }
  | _, _ => s

/-- A change of trunk `t`'s state handed to the detector front end (R23). -/
def repaceTrunk (t : Fin 4) (s : State) : State :=
  forEach (all16.filter (fun i => decide (stationTrunk s i = t))) repaceStation s

end Sys2Proof.Machine
end

