-- ==== Sys2Proof/Machine/Doors.lean ====
section
/-! DEFINITION. The door controller (chapter 7). -/

namespace Sys2Proof.Machine

/-- A door enters a state: its holder follows (section 7.2), and a DOOR_STATE record is appended (R151). -/
def setDoorState (d : Fin 16) (st : DoorState) (s : State) : State :=
  append (.doorState d st.phase) (s.setDoor d { s.door d with st := st, holder := st.holderOn })

/-- RELEASED, entered now, with its close timer (R145). -/
def releasedNow (s : State) (d : Fin 16) : DoorState := .released s.time (after s.time (seconds (s.doorEntry d).closeTimeout))

/-- Tests 2 and 3 of R142: the fan interlock, then the release. -/
def releaseOrWait (d : Fin 16) (src : Source) (s : State) : State :=
  setDoorState d (if interlockSatisfied s d then releasedNow s d else .waitFan src) s

/-- Test 1 of R142: a LEVEL release below FIRE is held off by a release delay above 0. -/
def takesDelay (s : State) (d : Fin 16) (src : Source) : Bool :=
  decide (0 < (s.doorEntry d).delay) && decide (src = .level) && decide ((doorLevel s d).rank < Level.fire.rank)

/-- A release asked for in HELD or READY (R142). -/
def requestRelease (d : Fin 16) (src : Source) (s : State) : State :=
  match (s.door d).st with
  | .ready => setDoorState d .closed s
  | .held =>
    if takesDelay s d src then setDoorState d (.delayed s.time (after s.time (seconds (s.doorEntry d).delay))) s
    else releaseOrWait d src s
  | .delayed _ _ | .waitFan _ | .released _ _ | .closed | .blocked | .disabled => s

/-- The level trigger evaluated (R141). -/
def evalTrigger (d : Fin 16) (s : State) : State :=
  match (s.door d).st with
  | .held | .ready => if levelTrigger s d then requestRelease d .level s else s
  | .delayed _ _ =>
    if levelTrigger s d then
      if doorLevel s d = .fire then releaseOrWait d .level s else s
    else setDoorState d .held s
  | .waitFan src => if src = .level ∧ !levelTrigger s d then setDoorState d .held s else s
  | .released _ _ | .closed | .blocked | .disabled => s

/-- A change of the latched level of zone `z` reaches the enabled doors adjoining it (R141), in rising index, which is
the model's choice of order (log entry 27). -/
def doorsOfZone (z : Fin 16) (s : State) : State :=
  forEach (all16.filter (fun d => (s.doorEntry d).enabled && adjoins s d z)) evalTrigger s

/-- A BLOCKED door's fault ends with its FAULT clear record (R146, R148, R152). -/
def endBlocked (d : Fin 16) (s : State) : State := append (.fault (.door d) false) s

/-- The contact of an enabled door has closed (R143 to R147). -/
def contactCloses (d : Fin 16) (s : State) : State :=
  match (s.door d).st with
  | .held => setDoorState d .ready s
  | .delayed _ _ | .waitFan _ | .released _ _ => setDoorState d .closed s
  | .blocked => endBlocked d (setDoorState d .closed s)
  | .ready | .closed | .disabled => s

/-- The contact of an enabled door has opened (R147). -/
def contactOpens (d : Fin 16) (s : State) : State :=
  match (s.door d).st with
  | .ready => setDoorState d .held s
  | .held | .delayed _ _ | .waitFan _ | .released _ _ | .closed | .blocked | .disabled => s

/-- FIU hands the active state of the door's contact (R139); a repeated state acts on nothing. -/
def handContact (d : Fin 16) (closed : Bool) (s : State) : State :=
  if (s.door d).contact = closed then s
  else
    let s := s.setDoor d { s.door d with contact := closed }
    if closed then contactCloses d s else contactOpens d s

/-- The door waits for the fan of trunk `t` (R144). -/
def waitsForFan (s : State) (t : Fin 4) (d : Fin 16) : Bool :=
  decide ((s.doorEntry d).interlock = some t) && match (s.door d).st with
    | .waitFan _ => true
    | _ => false

/-- The interlock of trunk `t` becomes satisfied: fan-quiet has set, or the trunk is disabled (R144). The doors are
released in rising index, which is the model's choice of order (log entry 27). -/
def interlockFreed (t : Fin 4) (s : State) : State :=
  forEach (all16.filter (waitsForFan s t)) (fun d s => setDoorState d (releasedNow s d) s) s

/-! ### Events -/

/-- The release delay expires: the door is decided by tests 2 and 3 of R142 (R143). -/
def execReleaseDelayExpiry (d : Fin 16) (s : State) : Host.Outcome State Fault Refusal :=
  .next (match (s.door d).st with
    | .delayed _ e => if reached s.time e then releaseOrWait d .level s else s
    | _ => s)

/-- The door becomes BLOCKED with its urgent fault (R145). -/
def blockDoor (d : Fin 16) (s : State) : State := append (.fault (.door d) true) (setDoorState d .blocked s)

/-- The close timer expires with the contact open (R145). -/
def execCloseTimerExpiry (d : Fin 16) (s : State) : Host.Outcome State Fault Refusal :=
  .next (match (s.door d).st with
    | .released _ e => if reached s.time e then blockDoor d s else s
    | _ => s)

/-! ### DHOLD (R148, R149) and DSHUT (R150) -/

/-- The state a re-held door takes: READY when its contact is closed, HELD when it is open. -/
def heldState (s : State) (d : Fin 16) : DoorState := if (s.door d).contact then .ready else .held

/-- The door is in a released state. -/
def DoorState.isReleased : DoorState → Bool
  | .released _ _ | .closed | .blocked => true
  | _ => false

/-- A DHOLD takes the door: it is released and its level trigger does not hold (R148). -/
def canHold (s : State) (d : Fin 16) : Bool := (s.door d).st.isReleased && !levelTrigger s d

/-- A door re-held (R148). -/
def holdDoor (d : Fin 16) (s : State) : State :=
  match (s.door d).st with
  | .closed => setDoorState d (heldState s d) s
  | .released _ _ => setDoorState d .held s
  | .blocked => endBlocked d (setDoorState d .held s)
  | .held | .ready | .delayed _ _ | .waitFan _ | .disabled => s

/-- An enabled door a DHOLD of all doors leaves un-held (R149): DELAYED, WAIT_FAN, or released with its trigger holding. -/
def refusesHold (s : State) (d : Fin 16) : Bool :=
  (s.doorEntry d).enabled && match (s.door d).st with
    | .delayed _ _ | .waitFan _ => true
    | .released _ _ | .closed | .blocked => levelTrigger s d
    | _ => false

/-- A DHOLD of all doors: the enabled doors it can take, in rising index (R149). -/
def holdAll (s : State) : State := forEach (all16.filter (fun d => (s.doorEntry d).enabled && canHold s d)) holdDoor s

/-- The refused set of a DHOLD of all doors, as a 16-bit mask. -/
def refusedSet (s : State) : List Byte := leBytes 2 (packBits (all16.map (refusesHold s)))

/-- DHOLD of one door or of all (R148, R149). The reply of one door carries no payload, not an empty refused set of 2
bytes: the model's reading of R179 (log entry 33). -/
def serveDhold (payload : List Byte) (s : State) : Answer :=
  match payload with
  | [b] =>
    if b = 255 then .give (refusedSet s) (holdAll s)
    else
      match readIndex 16 b with
      | none => .reject .range s
      | some d =>
        if (s.doorEntry d).enabled then
          if canHold s d then .ok (holdDoor d s) else .reject .refused s
        else .reject .range s
  | _ => .reject .range s

def execDhold (tag : Byte) (payload : List Byte) (s : State) : Host.Outcome State Fault Refusal :=
  .next (takeRequest .dhold serveDhold tag payload s)

/-- A release asked for by DSHUT, by the door's state (R150). -/
def shutDoor (d : Fin 16) (s : State) : State :=
  match (s.door d).st with
  | .held | .ready => requestRelease d .shut s
  | .delayed _ _ => releaseOrWait d .shut s
  | .waitFan _ => s.setDoor d { s.door d with st := .waitFan .shut }
  | .released _ _ | .closed | .blocked | .disabled => s

def serveDshut (payload : List Byte) (s : State) : Answer :=
  match payload with
  | [b] =>
    if b = 255 then .ok (forEach (all16.filter (fun d => (s.doorEntry d).enabled)) shutDoor s)
    else
      match readIndex 16 b with
      | none => .reject .range s
      | some d => if (s.doorEntry d).enabled then .ok (shutDoor d s) else .reject .range s
  | _ => .reject .range s

def execDshut (tag : Byte) (payload : List Byte) (s : State) : Host.Outcome State Fault Refusal :=
  .next (takeRequest .dshut serveDshut tag payload s)

/-! ### What a door does at a taken write (R152) -/

/-- A door disabled: its timer is dropped, a BLOCKED fault ends. -/
def disableDoor (d : Fin 16) (s : State) : State :=
  match (s.door d).st with
  | .blocked => endBlocked d (setDoorState d .disabled s)
  | _ => setDoorState d .disabled s

/-- A changed release delay moves the expiry of a running delay, and expires it when it is not later than now. -/
def delayWritten (old : DoorEntry) (d : Fin 16) (s : State) : State :=
  match (s.door d).st with
  | .delayed t _ =>
    if old.delay = (s.doorEntry d).delay then s
    else
      let e := after t (seconds (s.doorEntry d).delay)
      if reached s.time e then releaseOrWait d .level s else s.setDoor d { s.door d with st := .delayed t e }
  | _ => s

/-- A changed close timeout moves the expiry of a running close timer, and expires it when it is not later than now. -/
def closeTimeoutWritten (old : DoorEntry) (d : Fin 16) (s : State) : State :=
  match (s.door d).st with
  | .released t _ =>
    if old.closeTimeout = (s.doorEntry d).closeTimeout then s
    else
      let e := after t (seconds (s.doorEntry d).closeTimeout)
      if reached s.time e then blockDoor d s else s.setDoor d { s.door d with st := .released t e }
  | _ => s

/-- A changed interlock trunk is tested in WAIT_FAN. -/
def interlockWritten (old : DoorEntry) (d : Fin 16) (s : State) : State :=
  match (s.door d).st with
  | .waitFan _ =>
    if old.interlock ≠ (s.doorEntry d).interlock ∧ interlockSatisfied s d then setDoorState d (releasedNow s d) s else s
  | _ => s

/-- A DOOR write has replaced the entry `old` (R152): the bullets of the rule in their order, the
level trigger before the timers (log entry 14). -/
def doorWritten (old : DoorEntry) (d : Fin 16) (s : State) : State :=
  let new := s.doorEntry d
  if old.enabled && !new.enabled then disableDoor d s
  else if !old.enabled && new.enabled then evalTrigger d (setDoorState d (heldState s d) s)
  else if new.enabled then
    interlockWritten old d (closeTimeoutWritten old d (delayWritten old d (evalTrigger d s)))
  else s

end Sys2Proof.Machine
end

