-- ==== Sys2Proof/Machine/Sirens.lean ====
section
/-! DEFINITION. The siren sequencer (chapter 8). -/

namespace Sys2Proof.Machine

/-! ### Outputs (R162) -/

/-- The sirens whose partner field names siren `i`. -/
def restrainedBy (s : State) (i : Fin 8) : List (Fin 8) := sirens8.filter (fun j => decide (partnerOf s j = some i))

/-- The outputs of the listed sirens decided by R162, and of every siren restrained by one that
changed. The fuel bounds chains through partners that do not name each other (log entry 13). -/
def driveOutputs : Nat → List (Fin 8) → State → State
  | 0, _, s => s
  | _ + 1, [], s => s
  | n + 1, i :: rest, s =>
    if outputLevel s i = (s.siren i).output then driveOutputs n rest s
    else
      driveOutputs n (rest ++ restrainedBy s i) (s.setSiren i { s.siren i with output := outputLevel s i })

def driveOutput (i : Fin 8) (s : State) : State := driveOutputs 24 [i] s

/-! ### States and steps (R160, R166) -/

/-- A change of a siren's state, with its SIREN_STATE record (R166), and the output it leads to. -/
def setSirenState (i : Fin 8) (st : SirenState) (s : State) : State :=
  driveOutput i (append (.sirenState i st.phase st.pattern) (s.setSiren i { s.siren i with st := st }))

/-- The step `k` of pattern `p` as the PATTERN table stands. -/
def patternStep (s : State) (p : Fin 8) (k : Nat) : Slot := (s.patternEntry p).slots.toList.getD k { out := 0, units := 1 }

/-- The expiry of a step entered now (R160). -/
def stepExpiry (s : State) (p : Fin 8) (k : Nat) : Time := after s.time ((patternStep s p k).units.toNat * 50)

/-- SOUNDING at step `k` of `p`, entered now, with neither next pattern nor stop order. -/
def soundingAt (s : State) (p : Fin 8) (k : Nat) : SirenState :=
  .sounding p k ((patternStep s p k).out == 1) (stepExpiry s p k) none false

/-- TEST at step `k` of `p`, entered now; under a silent pattern no step is entered (R160). -/
def testingAt (s : State) (p : Fin 8) (k : Nat) (ends : Time) (faultSeen : Bool) : SirenState :=
  if isSilent s p then .test p k false none ends faultSeen
  else .test p k ((patternStep s p k).out == 1) (some (stepExpiry s p k)) ends faultSeen

/-- The siren sounds pattern `p` from step 0; with 0 steps it becomes OFF (R160). -/
def soundPattern (i : Fin 8) (p : Fin 8) (s : State) : State :=
  setSirenState i (if isSilent s p then .off else soundingAt s p 0) s

/-- The index of the step that follows step `k` of pattern `p` (R160). -/
def followingStep (s : State) (p : Fin 8) (k : Nat) : Nat := if k + 1 < (s.patternEntry p).count then k + 1 else 0

/-! ### The start queue (R158, R159) -/

/-- A start: the last start time is set, and the siren enters SOUNDING with its wanted pattern, or TEST. -/
def startSiren (i : Fin 8) (s : State) : State :=
  let s := { s with srs := { s.srs with lastStart := some s.time } }
  match (s.siren i).wanted, (s.siren i).st with
  | some p, _ => soundPattern i p s
  | none, .startWait (some t) =>
    setSirenState i (testingAt s t.pattern 0 (after s.time t.duration) (s.siren i).fault.isSome) s
  | none, _ => setSirenState i .off s

/-- Starts while the queue is not empty and the slot is free: one at a start gap above 0, all at a gap of 0 (R159). -/
def startQueued : Nat → State → State
  | 0, s => s
  | n + 1, s =>
    if startSlotOpen s then
      match firstQueued s with
      | none => s
      | some i => startQueued n (startSiren i s)
    else s

/-- The start slot judged (R159). -/
def judgeStarts (s : State) : State := startQueued 8 s

/-! ### Changes of the wanted pattern (R157, R161, R164) -/

/-- A siren test ended ABORTED: its TEST_RESULT record. -/
def abortSirenTest (i : Fin 8) (s : State) : State := append (.testResult (.siren i) .aborted) s

/-- The wanted pattern becomes `p` (R157). -/
def wantPattern (i : Fin 8) (p : Fin 8) (s : State) : State :=
  match (s.siren i).st with
  | .off => judgeStarts (setSirenState i (.startWait none) s)
  | .startWait none => s
  | .startWait (some _) => abortSirenTest i (s.setSiren i { s.siren i with st := .startWait none })
  | .sounding cur k w e _ _ =>
    if p = cur then s.setSiren i { s.siren i with st := .sounding cur k w e none false }
    else s.setSiren i { s.siren i with st := .sounding cur k w e (some p) false }
  | .test _ _ _ _ _ _ => soundPattern i p (abortSirenTest i s)

/-- The wanted pattern becomes none (R157). -/
def wantNone (i : Fin 8) (s : State) : State :=
  match (s.siren i).st with
  | .off => s
  | .startWait none => setSirenState i .off s
  | .startWait (some _) => s
  | .sounding cur k w e _ _ => s.setSiren i { s.siren i with st := .sounding cur k w e none true }
  | .test _ _ _ _ _ _ => s

/-- The wanted pattern formed anew (R156); a wanted pattern that stays the same acts on nothing. -/
def refreshSiren (i : Fin 8) (s : State) : State :=
  if wantedPattern s i = (s.siren i).wanted then s
  else
    match wantedPattern s i with
    | some p => wantPattern i p (s.setSiren i { s.siren i with wanted := some p })
    | none => wantNone i (s.setSiren i { s.siren i with wanted := none })

/-- A change of the latched level or silenced flag of zone `z` reaches the sirens covering it (R156), in rising index,
and a siren that joins a free start slot starts before the next one joins: the model's choice among the orders R159
allows (log entry 27). -/
def sirensOfZone (z : Fin 16) (s : State) : State :=
  forEach (sirens8.filter (fun i => (s.sirenEntry i).enabled && covers (s.sirenEntry i) z)) refreshSiren s

/-! ### Load supervision (R165) -/

/-- The load of siren `i` is supervised: the entry is enabled and the load has completed (R165, R168). -/
def loadSupervised (s : State) (i : Fin 8) : Bool := (s.sirenEntry i).enabled && decide (s.cfs.mode ≠ .start)

/-- The fault-seen mark set in a running test (R164). -/
def SirenState.seeFault : SirenState → SirenState
  | .test p k w e ends _ => .test p k w e ends true
  | st => st

/-- A condition reported on a supervised load (R165): a fault set, or the standing code changed. -/
def reportLoad (i : Fin 8) (c : LoadFault) (s : State) : State :=
  match (s.siren i).fault with
  | none =>
    driveOutput i (append (.fault (.siren i c) true)
      (s.setSiren i { s.siren i with fault := some c, st := (s.siren i).st.seeFault }))
  | some _ => driveOutput i (s.setSiren i { s.siren i with fault := some c })

/-- A standing fault ends with its clear record (R165). -/
def endLoadFault (i : Fin 8) (s : State) : State :=
  match (s.siren i).fault with
  | none => s
  | some c => driveOutput i (append (.fault (.siren i c) false) (s.setSiren i { s.siren i with fault := none }))

/-- Supervision of siren `i` begins: a load outside its band is reported (R165, R167, R168). -/
def superviseLoad (i : Fin 8) (s : State) : State :=
  match (s.siren i).load with
  | none => s
  | some c => if loadSupervised s i then reportLoad i c s else s

def execLoadFault (i : Fin 8) (c : LoadFault) (s : State) : Host.Outcome State Fault Refusal :=
  .next (superviseLoad i (s.setSiren i { s.siren i with load := some c }))

/-- The load returns to its normal band (R165). -/
def execLoadRecovery (i : Fin 8) (s : State) : Host.Outcome State Fault Refusal :=
  .next (endLoadFault i (s.setSiren i { s.siren i with load := none }))

/-! ### Events -/

/-- The start slot becomes free with sirens waiting (R159). -/
def execStartSlotFree (s : State) : Host.Outcome State Fault Refusal := .next (judgeStarts s)

/-- The last start time becomes absent 2000 ms after the last start (R159). -/
def execLastStartExpiry (s : State) : Host.Outcome State Fault Refusal :=
  .next (match s.srs.lastStart with
    | none => s
    | some l => if reached s.time (after l 2000) then judgeStarts { s with srs := { s.srs with lastStart := none } } else s)

/-- The end of a step of a sounding siren (R160, R161). -/
def endSoundingStep (i : Fin 8) (p : Fin 8) (k : Nat) (next : Option (Fin 8)) (stop : Bool) (s : State) : State :=
  if stop then setSirenState i .off s
  else
    match next with
    | some q => soundPattern i q s
    | none =>
      if isSilent s p then setSirenState i .off s
      else driveOutput i (s.setSiren i { s.siren i with st := soundingAt s p (followingStep s p k) })

/-- A siren's step timer expires (R160). -/
def execStepEnd (i : Fin 8) (s : State) : Host.Outcome State Fault Refusal :=
  .next (match (s.siren i).st with
    | .sounding p k _ e next stop => if reached s.time e then endSoundingStep i p k next stop s else s
    | .test p k _ e ends seen =>
      if expired s.time e then driveOutput i (s.setSiren i { s.siren i with st := testingAt s p (followingStep s p k) ends seen })
      else s
    | _ => s)

/-- The test timer expires: OFF, and PASS or FAIL by the fault-seen mark (R164). -/
def execSirenTestEnd (i : Fin 8) (s : State) : Host.Outcome State Fault Refusal :=
  .next (match (s.siren i).st with
    | .test _ _ _ _ ends seen =>
      if reached s.time ends then append (.testResult (.siren i) (if seen then .fail else .pass)) (setSirenState i .off s) else s
    | _ => s)

/-! ### STEST (R163) -/

/-- A siren test excludes another: a pending or running test, or a stop order. -/
def SirenState.barsTest : SirenState → Bool
  | .startWait (some _) => true
  | .test _ _ _ _ _ _ => true
  | .sounding _ _ _ _ _ stop => stop
  | _ => false

def serveStest (payload : List Byte) (s : State) : Answer :=
  match payload with
  | [ib, pb, d0, d1] =>
    match readIndex 8 ib, readIndex 8 pb, readRange 1000 60000 (u16 d0 d1) with
    | some i, some p, some dur =>
      if (s.sirenEntry i).enabled && !isSilent s p then
        if (s.siren i).wanted.isSome then .reject .refused s
        else if (s.siren i).st.barsTest then .reject .busy s
        else .ok (judgeStarts (setSirenState i (.startWait (some { pattern := p, duration := dur })) s))
      else .reject .range s
    | _, _, _ => .reject .range s
  | _ => .reject .range s

def execStest (tag : Byte) (payload : List Byte) (s : State) : Host.Outcome State Fault Refusal :=
  .next (takeRequest .stest serveStest tag payload s)

/-! ### What a siren does at a taken write (R167) -/

/-- A test running or pending ends ABORTED (R164). -/
def dropSirenTest (i : Fin 8) (s : State) : State :=
  match (s.siren i).st with
  | .test _ _ _ _ _ _ | .startWait (some _) => abortSirenTest i s
  | _ => s

/-- A siren disabled, in the order of R167: any test aborted, the output off, supervision stopped with
the clear record of a standing fault, and OFF with its record when it was not OFF. -/
def disableSiren (i : Fin 8) (s : State) : State :=
  let was := (s.siren i).st
  let s := dropSirenTest i s
  let s := endLoadFault i (driveOutput i (s.setSiren i { s.siren i with st := .off, wanted := none }))
  if was = .off then s else append (.sirenState i .off none) s

/-- A SIREN write has replaced the entry `old` (R167): disabling, enabling, or a change of zones,
patterns or partner. -/
def sirenWritten (old : SirenEntry) (i : Fin 8) (s : State) : State :=
  let new := s.sirenEntry i
  if old = new then s
  else if old.enabled && !new.enabled then disableSiren i s
  else
    let s := if !old.enabled && new.enabled then superviseLoad i s else s
    let s := if old.partner = new.partner then s else driveOutput i s
    refreshSiren i s

/-- The sirens whose record names pattern `p` (R156). -/
def namesPattern (e : SirenEntry) (p : Fin 8) : Bool :=
  decide (e.watchPattern = some p) || decide (e.alertPattern = some p) || decide (e.firePattern = some p)

/-- A PATTERN write has replaced entry `p`: the wanted pattern of every siren naming it is formed anew (R167), in rising
index, which is the model's choice of order (log entry 27). -/
def patternWritten (p : Fin 8) (s : State) : State :=
  forEach (sirens8.filter (fun i => namesPattern (s.sirenEntry i) p)) refreshSiren s

end Sys2Proof.Machine
end

