-- ==== Sys2Proof/Machine/Zones.lean ====
section
/-! DEFINITION. The zone table up to its hand-off to the trunk controller (sections 6.2, 6.3). The
re-evaluation of targets that follows a change of a current level is `settleAll` of Trunks. -/

namespace Sys2Proof.Machine

/-- The ZONE_LEVEL body of a zone as it stands (R183). -/
def zoneBody (s : State) (z : Fin 16) : Body := .zoneLevel z (s.zone z).latched (s.zone z).current (s.zone z).causes

/-- A change of the latched level, or of the silenced flag, reaches the doors and sirens (R123). -/
def handLatched (z : Fin 16) (s : State) : State := sirensOfZone z (doorsOfZone z s)

/-- The zone after its latched level rose to `l` (R123): the acknowledged flag clears, and a hush
below the new level ends (R127). -/
def Zone.rise (x : Zone) (l : Level) : Zone :=
  if x.silenced && decide (x.hush.rank < l.rank) then
    { x with latched := l, ack := false, silenced := false, hush := .normal }
  else { x with latched := l, ack := false }

/-- The latched level rises to `l`: the zone, its record, its readers (R123), in the order the rule lists them (log
entry 32). -/
def riseLatched (z : Fin 16) (l : Level) (s : State) : State :=
  let s := s.setZone z ((s.zone z).rise l)
  handLatched z (appendRise (zoneBody s z) s)

/-- The causes of zone `z` taken from their sources, and its current level formed (R121, R122). -/
def formCurrent (z : Fin 16) (s : State) : State :=
  s.setZone z { s.zone z with causes := causesOf s z, current := currentFrom s z (causesOf s z) }

/-- The latched level is held at or above the current level (R123). -/
def holdLatched (z : Fin 16) (s : State) : State :=
  if (s.zone z).latched.rank < (s.zone z).current.rank then riseLatched z (s.zone z).current s else s

/-- A source has changed its cause in zone `z`: current level formed, latched level held above it (R122, R123). -/
def refreshZone (z : Fin 16) (s : State) : State := holdLatched z (formCurrent z s)

/-- Every zone formed anew, in rising index, which is the model's choice of order (log entry 30): a table write
that may move causes between zones. -/
def refreshZones (s : State) : State := forEach all16 refreshZone s

end Sys2Proof.Machine
end

