-- ==== Sys2Proof/Machine/Trunks.lean ====
section
/-! DEFINITION. The trunk controller (chapter 5). -/

namespace Sys2Proof.Machine

/-! ### Changes of state (R97, R98) -/

/-- Every machine-stop output driven from the tables and the trunk states (R97). -/
def driveStops (s : State) : State := { s with tkc := { s.tkc with machineStop := Vector.ofFn (machineStopLevel s) } }

/-- The trunk in state `new`, its fan and gate outputs with it (R97). -/
def Trunk.inState (x : Trunk) (gatePresent : Bool) (new : Prot) : Trunk :=
  { x with prot := new, fanOut := new.fanOn, gateOut := new.gate gatePresent x.gateOut }

/-- A change of a trunk's state (R97, R98): outputs, TRUNK_STATE record, the stations' pace, and the
TRUNK cause of the filter zone. R98 gives the hand-offs no order; the TRUNK_STATE record stands before what the
zone records (log entry 30). -/
def setProt (t : Fin 4) (new : Prot) (cause : Cause) (s : State) : State :=
  let old := (s.trunk t).prot
  let s := driveStops (s.setTrunk t ((s.trunk t).inState (s.trunkEntry t).gatePresent new))
  let s := repaceTrunk t (append (.trunkState t old.phase new.phase cause) s)
  refreshZone (s.trunkEntry t).filterZone s

/-- Fan-quiet sets, and doors waiting for this fan are released (R109, R144). -/
def quietFan (t : Fin 4) (s : State) : State :=
  interlockFreed t (s.setTrunk t { s.trunk t with fanQuiet := true, fanStop := none })

/-- Fan-stop supervision as at an entry to HALT now (R109). -/
def superviseFanStop (t : Fin 4) (s : State) : State :=
  if (s.trunk t).fanIn then
    s.setTrunk t { s.trunk t with fanStop := some (after s.time (seconds (s.trunkEntry t).fanStopTimeout)) }
  else quietFan t s

/-- One halt by trip for the counter bank when the cause is TRIP (R108). -/
def countHalt (t : Fin 4) (c : Cause) (s : State) : State :=
  match c with
  | .trip _ => countTrunk t (fun x => { x with haltsByTrip := x.haltsByTrip + 1 }) s
  | _ => s

/-- Every timer that HALT stops (R108). -/
def Trunk.stopTimers (x : Trunk) : Trunk :=
  { x with gateTimer := none, gateConfirmed := false, divertHold := none, clearDelay := none, startTimer := none }

/-- Entry to HALT with cause `c` (R108). The filter zone's change reaches the doors before fan-quiet sets, so
an interlocked door it releases passes through WAIT_FAN: the model's choice of order (log entry 31). -/
def enterHalt (t : Fin 4) (c : Cause) (s : State) : State :=
  let s := s.setTrunk t { (s.trunk t).stopTimers with haltEntry := s.time }
  superviseFanStop t (countHalt t c (setProt t (.halt c) c s))

/-- Entry to STOPPING with pending cause `c` (R107); a clear delay of 0 passes on into HALT at once, before a
HALT_NOW target that the entry itself raises: the model's choice between the two orders R107 allows (log entry 31). The
targets of the other trunks are re-evaluated after the HALT alone, not between the two states: the model's choice (log
entries 10 and 31). -/
def enterStopping (t : Fin 4) (c : Cause) (s : State) : State :=
  let s := s.setTrunk t
    { (s.trunk t).stopTimers with clearDelay := some (after s.time (seconds (s.trunkEntry t).clearDelay)) }
  let s := setProt t (.stopping c) c s
  if (s.trunkEntry t).clearDelay = 0 then enterHalt t c s else s

/-- Gate supervision at entry to DIVERT, or when a confirmed gate is lost: confirmed while the GATE
input is active, timed otherwise (R105). -/
def superviseGate (t : Fin 4) (s : State) : State :=
  if (s.trunk t).gateIn then s.setTrunk t { s.trunk t with gateTimer := none, gateConfirmed := true }
  else
    s.setTrunk t { s.trunk t with gateTimer := some (after s.time (s.trunkEntry t).gateTimeout), gateConfirmed := false }

/-- Entry to DIVERT by the deciding slot (R105). -/
def enterDivert (t : Fin 4) (slot : Fin 6) (s : State) : State :=
  superviseGate t (setProt t .divert (.trip slot) (s.setTrunk t (s.trunk t).stopTimers))

def enterWatch (t : Fin 4) (slot : Fin 6) (s : State) : State :=
  setProt t .watch (.trip slot) (s.setTrunk t (s.trunk t).stopTimers)

/-- Entry to RUN; the machine stops are released (R97, R111). -/
def enterRun (t : Fin 4) (s : State) : State := setProt t .run .none (s.setTrunk t (s.trunk t).stopTimers)

/-! ### The target acts on the state (R104, R106) -/

/-- In RUN and WATCH a DIVERT target of a trunk without a gate is a HALT_CLEAR target (R104). -/
def divertOrStop (t : Fin 4) (slot : Fin 6) (s : State) : State :=
  if (s.trunkEntry t).gatePresent then enterDivert t slot s else enterStopping t (.trip slot) s

/-- The divert hold runs while the target is below DIVERT; a running hold is not restarted (R106). -/
def startDivertHold (t : Fin 4) (s : State) : State :=
  match (s.trunk t).divertHold with
  | some _ => s
  | none => s.setTrunk t { s.trunk t with divertHold := some (after s.time (seconds (s.trunkEntry t).divertHold)) }

/-- The table of R104, row by row, for an enabled trunk. -/
def actOn (t : Fin 4) (s : State) : State :=
  match (s.trunk t).prot, target s t with
  | .run, some (.watch, d) => enterWatch t d s
  | .run, some (.divert, d) => divertOrStop t d s
  | .run, some (.haltClear, d) => enterStopping t (.trip d) s
  | .run, some (.haltNow, d) => enterHalt t (.trip d) s
  | .watch, none => enterRun t s
  | .watch, some (.divert, d) => divertOrStop t d s
  | .watch, some (.haltClear, d) => enterStopping t (.trip d) s
  | .watch, some (.haltNow, d) => enterHalt t (.trip d) s
  | .divert, none => startDivertHold t s
  | .divert, some (.watch, _) => startDivertHold t s
  | .divert, some (.divert, _) => s.setTrunk t { s.trunk t with divertHold := none }
  | .divert, some (.haltClear, d) => enterStopping t (.trip d) s
  | .divert, some (.haltNow, d) => enterHalt t (.trip d) s
  | .starting, some (.haltClear, d) => enterHalt t (.trip d) s
  | .starting, some (.haltNow, d) => enterHalt t (.trip d) s
  | .stopping _, some (.haltNow, d) => enterHalt t (.trip d) s
  | _, _ => s

/-- The targets of the listed trunks act on their states; a change of state re-evaluates every trunk
(R98, R103). The fuel bounds trunks that trip one another (log entry 10). -/
def settle : Nat → List (Fin 4) → State → State
  | 0, _, s => s
  | _ + 1, [], s => s
  | n + 1, t :: rest, s =>
    if ((actOn t s).trunk t).prot = (s.trunk t).prot then settle n rest (actOn t s) else settle n trunks4 (actOn t s)

/-- Every trunk's target re-evaluated, and its state acting on it, until all stand (R103). -/
def settleAll (s : State) : State := settle 128 trunks4 s

/-- A change of a source's cause in zone `z`, and every target with it (R122, R103). -/
def causeChanged (z : Fin 16) (s : State) : State := settleAll (refreshZone z s)

/-! ### What other blocks hand to TKC -/

/-- The run condition tested in STARTING (R111). -/
def testRun (t : Fin 4) (s : State) : State :=
  if (s.trunk t).prot = .starting ∧ runCondition s t then enterRun t s else s

/-- A change of v_f handed on by AFM (R12, R14). -/
def velocityChanged (t : Fin 4) (s : State) : State := settleAll (testRun t s)

/-- The slot `k` of a ring incremented, a slot at 255 staying at 255 (R100). -/
def bumpSlot (r : Vector Nat 8) (k : Fin 8) : Vector Nat 8 := r.set k (bump 255 r[k])

/-- One new track of trunk `t` (R100). -/
def arriveNew (t : Fin 4) (s : State) : State :=
  settleAll (s.setTrunk t { s.trunk t with newRing := bumpSlot (s.trunk t).newRing (s.trunk t).slot })

/-- One missed spray of trunk `t` (R100). -/
def arriveMissed (t : Fin 4) (s : State) : State :=
  settleAll (s.setTrunk t { s.trunk t with missedRing := bumpSlot (s.trunk t).missedRing (s.trunk t).slot })

/-- A track of trunk `t` ended SURVIVED: the survivor flag, and the SURVIVOR cause of its filter zone (R114). -/
def setSurvivor (t : Fin 4) (s : State) : State :=
  causeChanged (s.trunkEntry t).filterZone (s.setTrunk t { s.trunk t with survivor := true })

/-- A ZACK of zone `z` clears the survivor flags of its enabled trunks that have no active track (R115). -/
def clearSurvivors (z : Fin 16) (s : State) : State :=
  forEach (trunks4.filter (fun t => (s.trunkEntry t).enabled && decide ((s.trunkEntry t).filterZone = z) && !hasTrack s t))
    (fun t s => s.setTrunk t { s.trunk t with survivor := false }) s

/-- A set FAN_FAULT ends with its clear record (R109). -/
def endFanFault (t : Fin 4) (s : State) : State :=
  if (s.trunk t).fanFault then append (.fault (.fan t) false) (s.setTrunk t { s.trunk t with fanFault := false }) else s

/-- The FAN input of trunk `t` handed by FIU (R109, R111); a repeated state acts on nothing. -/
def handFan (t : Fin 4) (active : Bool) (s : State) : State :=
  if (s.trunk t).fanIn = active then s
  else
    let s := s.setTrunk t { s.trunk t with fanIn := active }
    if active then settleAll (testRun t s)
    else endFanFault t (if (s.trunk t).fanStop.isSome then quietFan t s else s)

/-- The GATE input of trunk `t` handed by FIU (R105); it is supervised in DIVERT alone. -/
def handGate (t : Fin 4) (active : Bool) (s : State) : State :=
  if (s.trunk t).gateIn = active then s
  else
    let s := s.setTrunk t { s.trunk t with gateIn := active }
    if (s.trunk t).prot = .divert ∧ (active = true ∨ (s.trunk t).gateConfirmed) then superviseGate t s else s

/-! ### Timer events -/

/-- The current slot moves on, and the slot of both rings at the new index is cleared (R99). -/
def advanceSlot (t : Fin 4) (s : State) : State :=
  let x := s.trunk t
  let k : Fin 8 := x.slot + 1
  settleAll (s.setTrunk t
    { x with slot := k, newRing := x.newRing.set k 0, missedRing := x.missedRing.set k 0, slotStart := s.time,
             nextAdvance := some (after s.time (s.trunkEntry t).slotLen) })

def execSlotAdvance (t : Fin 4) (s : State) : Host.Outcome State Fault Refusal :=
  .next (if expired s.time (s.trunk t).nextAdvance then advanceSlot t s else s)

/-- The gate timer expires with the gate unconfirmed (R105). -/
def execGateTimerExpiry (t : Fin 4) (s : State) : Host.Outcome State Fault Refusal :=
  .next (if expired s.time (s.trunk t).gateTimer then settleAll (enterHalt t .gateFault s) else s)

/-- At the end of the divert hold the trunk enters WATCH at a WATCH target and RUN otherwise (R106). -/
def endDivert (t : Fin 4) (s : State) : State :=
  match target s t with
  | some (.watch, d) => settleAll (enterWatch t d s)
  | _ => settleAll (enterRun t s)

def execDivertHoldExpiry (t : Fin 4) (s : State) : Host.Outcome State Fault Refusal :=
  .next (if expired s.time (s.trunk t).divertHold then endDivert t s else s)

/-- The clear delay expires: HALT with the pending cause (R107). -/
def execClearDelayExpiry (t : Fin 4) (s : State) : Host.Outcome State Fault Refusal :=
  .next (if expired s.time (s.trunk t).clearDelay then settleAll (enterHalt t (s.trunk t).prot.cause s) else s)

/-- The fan-stop timer expires: fan-quiet, FAN_FAULT and its urgent record (R109). -/
def fanStopExpires (t : Fin 4) (s : State) : State :=
  let s := quietFan t s
  append (.fault (.fan t) true) (s.setTrunk t { s.trunk t with fanFault := true })

def execFanStopTimeout (t : Fin 4) (s : State) : Host.Outcome State Fault Refusal :=
  .next (if expired s.time (s.trunk t).fanStop then fanStopExpires t s else s)

/-- The start timer expires without the run condition (R111). -/
def execStartTimeout (t : Fin 4) (s : State) : Host.Outcome State Fault Refusal :=
  .next (if expired s.time (s.trunk t).startTimer then settleAll (enterHalt t .startFail s) else s)

/-! ### TRUN (R110) and THALT (R112) -/

/-- An accepted TRUN: the trunk enters STARTING, and the run condition is tested at entry (R110, R111). -/
def resumeTrunk (t : Fin 4) (s : State) : State :=
  let s := endFanFault t s
  let s := s.setTrunk t
    { (s.trunk t).stopTimers with
      fanStop := none, fanQuiet := false, startTimer := some (after s.time (seconds (s.trunkEntry t).startTimeout)) }
  settleAll (testRun t (setProt t .starting .resume s))

def serveTrun (payload : List Byte) (s : State) : Answer :=
  match payload with
  | [b] =>
    match readIndex 4 b with
    | none => .reject .range s
    | some t =>
      if (s.trunkEntry t).enabled then
        if s.cfs.mode = .armed ∧ (s.trunk t).prot.isHalt ∧ !targetHalts s t then .ok (resumeTrunk t s) else .reject .refused s
      else .reject .range s
  | _ => .reject .range s

def execTrun (tag : Byte) (payload : List Byte) (s : State) : Host.Outcome State Fault Refusal :=
  .next (takeRequest .trun serveTrun tag payload s)

/-- The table of R112: mode NOW. -/
def haltNow (t : Fin 4) (s : State) : State := if (s.trunk t).prot.isHalt then s else settleAll (enterHalt t .manual s)

/-- The table of R112: mode CLEAR. -/
def haltClear (t : Fin 4) (s : State) : State :=
  match (s.trunk t).prot with
  | .run | .watch | .divert => settleAll (enterStopping t .manual s)
  | .starting => settleAll (enterHalt t .manual s)
  | .stopping _ | .halt _ => s

def serveThalt (payload : List Byte) (s : State) : Answer :=
  match payload with
  | [b, m] =>
    match readIndex 4 b, readFlag m with
    | some t, some now => if (s.trunkEntry t).enabled then .ok (if now then haltNow t s else haltClear t s) else .reject .range s
    | _, _ => .reject .range s
  | _ => .reject .range s

def execThalt (tag : Byte) (payload : List Byte) (s : State) : Host.Outcome State Fault Refusal :=
  .next (takeRequest .thalt serveThalt tag payload s)

/-! ### CFGIN and table writes (R113, R117) -/

/-- CFGIN puts every enabled trunk not in HALT into HALT with cause SERVICE (R113), in rising index, which is the model's
choice of order (log entry 30); the targets are re-evaluated after the last of them alone (log entry 10). -/
def haltForService (s : State) : State :=
  settleAll (forEach (trunks4.filter (fun t => (s.trunkEntry t).enabled))
    (fun t s => if (s.trunk t).prot.isHalt then s else enterHalt t .service s) s)

/-- A trunk whose supervision and slot timer begin now, in HALT with cause `c` (R99, R109, R117, R118). -/
def beginTrunk (t : Fin 4) (c : Cause) (s : State) : State :=
  superviseFanStop t (driveStops (s.setTrunk t
    { Trunk.reset with
      prot := .halt c, gateOut := (s.trunkEntry t).gatePresent, haltEntry := s.time, slotStart := s.time,
      nextAdvance := some (after s.time (s.trunkEntry t).slotLen), fanIn := (s.trunk t).fanIn, gateIn := (s.trunk t).gateIn }))

/-- A trunk disabled, as STAT shows it (R117): its interlocked doors wait no more (R144). -/
def dropTrunk (t : Fin 4) (s : State) : State :=
  let s := endFanFault t s
  interlockFreed t (driveStops (s.setTrunk t
    { Trunk.reset with prot := .halt .none, fanIn := (s.trunk t).fanIn, gateIn := (s.trunk t).gateIn }))

/-- A changed slot length moves the next advance, and advances when it is not later than now (R99). -/
def slotLenWritten (old : TrunkEntry) (t : Fin 4) (s : State) : State :=
  if old.slotLen = (s.trunkEntry t).slotLen then s
  else
    let e := after (s.trunk t).slotStart (s.trunkEntry t).slotLen
    if reached s.time e then advanceSlot t s else s.setTrunk t { s.trunk t with nextAdvance := some e }

/-- A changed fan stop timeout moves a running fan-stop timer, and expires it when it is not later than now (R109). -/
def fanStopWritten (old : TrunkEntry) (t : Fin 4) (s : State) : State :=
  if old.fanStopTimeout = (s.trunkEntry t).fanStopTimeout ∨ (s.trunk t).fanStop = none then s
  else
    let e := after (s.trunk t).haltEntry (seconds (s.trunkEntry t).fanStopTimeout)
    if reached s.time e then fanStopExpires t s else s.setTrunk t { s.trunk t with fanStop := some e }

/-- The gate output follows a changed gate present in HALT (R117). -/
def gateWritten (t : Fin 4) (s : State) : State :=
  s.setTrunk t { s.trunk t with gateOut := (s.trunk t).prot.gate (s.trunkEntry t).gatePresent (s.trunk t).gateOut }

/-- A TRUNK write has replaced the entry `old`: what TKC does with it (R99, R109, R117). -/
def trunkWritten (old : TrunkEntry) (t : Fin 4) (s : State) : State :=
  let new := s.trunkEntry t
  if !old.enabled && new.enabled then beginTrunk t .service s
  else if old.enabled && !new.enabled then dropTrunk t s
  else if new.enabled then slotLenWritten old t (fanStopWritten old t (gateWritten t s))
  else s

end Sys2Proof.Machine
end

