-- ==== Sys2Proof/Machine/HeadTests.lean ====
section
/-! DEFINITION. How a head self-test ends (R34, R35, R31): the correlator and the detector front end
both end tests. -/

namespace Sys2Proof.Machine

/-- The self-test of station `i` ends with result `r`: emitter off, last result, TEST_RESULT record. -/
def endHeadTest (i : Fin 16) (r : TestResult) (s : State) : State :=
  append (.testResult (.head i) r) (s.setStation i { s.station i with lastResult := r, emitter := false })

/-- The self-test ends with result `r` and the station takes the state selected now (R34, R35). -/
def leaveTest (i : Fin 16) (r : TestResult) (s : State) : State :=
  let s := endHeadTest i r s
  s.setStation i { s.station i with scan := selectedScan s i }

/-- A station in TEST has its test aborted; any other is left alone (R35, R52). -/
def abortTest (i : Fin 16) (s : State) : State :=
  match (s.station i).scan with
  | .test _ _ => leaveTest i .aborted s
  | _ => s

end Sys2Proof.Machine
end

