-- ==== Sys2Proof/Machine/TrackEnds.lean ====
section
/-! DEFINITION. How tracks follow their sprays and end (sections 3.6, 3.7). -/

namespace Sys2Proof.Machine

/-- The track in the table that bears `id`. -/
def findTrack (s : State) (id : Byte) : Option Track := s.trc.tracks.find? (fun k => decide (k.id = id))

/-- The track that bears `id` replaced by `f` of it. -/
def updateTrack (id : Byte) (f : Track → Track) (s : State) : State :=
  s.setTracks (s.trc.tracks.map (fun k => if k.id = id then f k else k))

/-- The outcome of the tagged track `id` handed to the response sampler, which keeps it for the sample of
that track's request alone: a track tagged before a rearm is none of it (R66, R93). -/
def Sampler.takeOutcome (id : Byte) (o : TrackOutcome) : Sampler → Sampler
  | .tagged r p => .tagged r (if r.track = id then some o else p)
  | x => x

/-- The survivor hand-off of a track that ended SURVIVED (R55). -/
def handSurvivor (k : Track) (o : TrackOutcome) (s : State) : State := if o = .survived then setSurvivor k.trunk s else s

/-- The end of track `k` with outcome `o`: removal, record, count, sampler, survivor (R66). R66 gives the
hand-offs no order; TRACK_END stands before what the survivor hand-off records (log entry 30). -/
def endTrack (k : Track) (o : TrackOutcome) (s : State) : State :=
  let s := s.setTracks (s.trc.tracks.filter (fun j => decide (j.id ≠ k.id)))
  let s := append (.trackEnd k.id k.trunk o k.sightings k.passes) s
  let s := countTrunk k.trunk (countOutcome o) s
  let s := if k.tagged then { s with spa := { s.spa with sampler := s.spa.sampler.takeOutcome k.id o } } else s
  handSurvivor k o s

/-- The judgement of a track without a next station, by its spray outcome and spray closed (R64). -/
def Track.judgement (k : Track) : Option TrackOutcome :=
  match k.outcome, k.sprayClosed with
  | .none, _ => some .vanished
  | .scheduled, _ => none
  | .opened, false => none
  | .opened, true => some .unconfirmed
  | .missed, _ => some .vanished

/-- The track `id`, if it has no next station, judged by R64. -/
def judgeTrack (id : Byte) (s : State) : State :=
  match findTrack s id with
  | none => s
  | some k =>
    if k.next.isSome then s
    else
      match k.judgement with
      | none => s
      | some o => endTrack k o s

/-- A notice of valve `v` applies to the track that bears `id` while it follows that valve (R62). -/
def follows (s : State) (v : Fin 12) (id : Byte) : Bool :=
  match findTrack s id with
  | none => false
  | some k => decide (k.valve = some v)

/-- An OPENED notice (R59). -/
def noticeOpened (v : Fin 12) (id : Byte) (s : State) : State :=
  if follows s v id then updateTrack id (fun k => { k with outcome := .opened }) s else s

/-- A MISSED notice (R60). -/
def noticeMissed (v : Fin 12) (id : Byte) (s : State) : State :=
  if follows s v id then judgeTrack id (updateTrack id (fun k => { k with outcome := .missed }) s) else s

/-- The spray of the track that bears `id` has opened. -/
def sprayOpened (s : State) (id : Byte) : Bool :=
  match findTrack s id with
  | none => false
  | some k => decide (k.outcome = .opened)

/-- A CLOSED notice (R61). -/
def noticeClosed (v : Fin 12) (id : Byte) (s : State) : State :=
  if follows s v id && sprayOpened s id then judgeTrack id (updateTrack id (fun k => { k with sprayClosed := true }) s) else s

/-- The track's window has passed (R47). -/
def windowPassed (s : State) (k : Track) : Bool :=
  match k.next with
  | none => false
  | some e => passed s.time e.late

/-- The outcome at the passing of the window (R63). -/
def Track.atWindowPass (k : Track) : TrackOutcome := if k.outcome = .opened then .extinguished else .vanished

/-- A track whose window has passed ends (R63). -/
def passWindow (id : Byte) (s : State) : State :=
  match findTrack s id with
  | none => s
  | some k => if windowPassed s k then endTrack k k.atWindowPass s else s

def execWindowPass (id : Byte) (s : State) : Host.Outcome State Fault Refusal := .next (passWindow id s)

/-- A rise of STALLED extends the windows of the trunk's tracks (R67). -/
def extendWindow (t : Fin 4) (until_ : Time) (k : Track) : Track :=
  if k.trunk = t then { k with next := k.next.map (fun e => { e with late := laterOf e.late until_ }) } else k

def stallTracks (t : Fin 4) (s : State) : State :=
  s.setTracks (s.trc.tracks.map (extendWindow t (after s.time (s.trunkEntry t).stallHold)))

/-! ### TRKS (R69) -/

/-- A track with every field of R40, absent fields as R69 gives (R179). -/
def Track.encode (k : Track) : List Byte :=
  [k.id, byte k.trunk.val, byte k.origin.val] ++ timeBytes k.originTime ++ [byte k.last.val] ++ timeBytes k.lastTime
    ++ leBytes 2 k.peak
    ++ [byte k.sightings, optByte (k.next.map Expect.station)]
    ++ (match k.next with
      | none => timeBytes 0 ++ timeBytes 0
      | some e => timeBytes e.early ++ timeBytes e.late)
    ++ [optByte k.valve, k.outcome.code, flagByte k.sprayClosed, byte k.passes, flagByte k.tagged]

def serveTrks (payload : List Byte) (s : State) : Answer :=
  match payload with
  | [b] =>
    if b.toNat ≤ 31 then
      .give ([byte s.trc.tracks.length, b] ++ ((s.trc.tracks.drop b.toNat).take 8).flatMap Track.encode) s
    else .reject .range s
  | _ => .reject .range s

def execTrks (tag : Byte) (payload : List Byte) (s : State) : Host.Outcome State Fault Refusal :=
  .next (takeRequest .trks serveTrks tag payload s)

end Sys2Proof.Machine
end

