-- ==== Sys2Proof/Machine/Sprays.lean ====
section
/-! DEFINITION. The spray arbiter (chapter 4). -/

namespace Sys2Proof.Machine

/-! ### Flow proving (R85 to R88) -/

/-- A valve in TEST has seen flow (R90). -/
def Valve.seeFlow (x : Valve) : Valve :=
  match x.st with
  | .test ends _ => { x with st := .test ends true }
  | _ => x

/-- Every valve in TEST has seen flow (R90). -/
def markFlowSeen (s : State) : State :=
  { s with spa := { s.spa with valves := Vector.ofFn (fun v => (s.spa.valves[v]).seeFlow) } }

/-- FLOW_PROVEN while the FLOW input is active and units in use is above 0 (R85); where it becomes
set, the tests that run have seen flow (R90). -/
def evalProven (s : State) : State :=
  let p := s.spa.flow && decide (0 < s.spa.units)
  let s := { s with spa := { s.spa with flowProven := p } }
  if p then markFlowSeen s else s

/-- `d` units drawn by a valve of grant class `c`; a rise of units in use from 0 begins flow proving (R81, R85). -/
def takeUnits (d : Nat) (c : ValveClass) (s : State) : State :=
  let x := s.spa
  let fresh := x.units == 0 && decide (0 < d)
  evalProven { s with spa :=
    { x with
      units := x.units + d
      nonFilter := if c = .filter then x.nonFilter else x.nonFilter + d
      proveExpiry := if fresh then some (after s.time s.supplyEntry.proveTime) else x.proveExpiry
      unexpExpiry := if fresh then none else x.unexpExpiry } }

/-- `d` units released by a valve of grant class `c`; a fall of units in use to 0 ends flow proving
and, with flow, starts the unexpected flow timer (R83, R85, R87). -/
def releaseUnits (d : Nat) (c : ValveClass) (s : State) : State :=
  let x := s.spa
  let empty := decide (0 < x.units) && x.units - d == 0
  evalProven { s with spa :=
    { x with
      units := x.units - d
      nonFilter := if c = .filter then x.nonFilter else x.nonFilter - d
      proveExpiry := if empty then none else x.proveExpiry
      unexpExpiry := if empty && x.flow then some (after s.time (seconds s.supplyEntry.unexpTime)) else x.unexpExpiry } }

/-- The SUPPLY and FLOW_UNEXPECTED causes handed to the filter zone of every enabled trunk (R86, R87), in rising
zone index, which is the model's choice of order (log entry 30). -/
def supplyCauses (s : State) : State :=
  settleAll (forEach (all16.filter (fun z => filterZoneOf s z (fun _ => true))) refreshZone s)

/-- SUPPLY_FAULT set: its urgent record, and its causes (R86), in that order, which is the model's choice (log entry 32).
A fault already set appends nothing. -/
def setSupplyFault (s : State) : State :=
  if s.spa.supplyFault then s
  else supplyCauses (append (.fault .noFlow true) { s with spa := { s.spa with supplyFault := true } })

/-- SUPPLY_FAULT clears: its record, and its causes removed (R86; log entry 32 for the order). -/
def clearSupplyFault (s : State) : State :=
  if s.spa.supplyFault then
    supplyCauses (append (.fault .noFlow false) { s with spa := { s.spa with supplyFault := false } })
  else s

/-- Raised FLOW_UNEXPECTED causes are removed, and their clear record appended (R87; log entry 32 for the order). -/
def clearUnexpected (s : State) : State :=
  if s.spa.unexpRaised then
    append (.fault .flowUnexpected false) (supplyCauses { s with spa := { s.spa with unexpRaised := false } })
  else s

/-- The FLOW input handed by FIU (R85 to R88); a repeated state acts on nothing. -/
def handFlow (active : Bool) (s : State) : State :=
  if s.spa.flow = active then s
  else
    let s := { s with spa := { s.spa with flow := active } }
    if active then
      let s := if s.spa.units = 0 then
        { s with spa := { s.spa with unexpExpiry := some (after s.time (seconds s.supplyEntry.unexpTime)) } } else s
      clearSupplyFault (evalProven s)
    else clearUnexpected (evalProven { s with spa := { s.spa with unexpExpiry := none } })

/-- The flow prove timer expires, and SPA tests the FLOW input (R85). -/
def execFlowProveExpiry (s : State) : Host.Outcome State Fault Refusal :=
  .next (if expired s.time s.spa.proveExpiry then
      let s := { s with spa := { s.spa with proveExpiry := none } }
      if s.spa.flow then s else setSupplyFault s
    else s)

/-- The unexpected flow timer expires (R87): the causes, then the record (log entry 32 for the order); with the causes
raised already it changes nothing more. -/
def execUnexpectedFlowExpiry (s : State) : Host.Outcome State Fault Refusal :=
  .next (if expired s.time s.spa.unexpExpiry then
      let s := { s with spa := { s.spa with unexpExpiry := none } }
      if s.spa.unexpRaised then s
      else append (.fault .flowUnexpected true) (supplyCauses { s with spa := { s.spa with unexpRaised := true } })
    else s)

/-! ### Grants (R78 to R81) -/

/-- A SPRAY record of a schedule. -/
def sprayBody (v : Fin 12) (ev : SprayEvent) (sch : Schedule) (late : Bool) : Body :=
  .spray v ev sch.lateStart late sch.merged sch.openTime sch.closeTime

/-- One open, and one late spray when marked LATE, for the counter bank (R81). -/
def ValveCounters.granted (late : Bool) (c : ValveCounters) : ValveCounters :=
  { c with opens := c.opens + 1, late := if late then c.late + 1 else c.late }

/-- A grant to valve `v` with schedule `sch` (R81), its effects in the order the rule lists them (log entry 32). -/
def grant (v : Fin 12) (sch : Schedule) (s : State) : State :=
  let e := s.valveEntry v
  let late := later s.time sch.openTime
  let s := s.setValve v { st := .spraying sch s.time late e.cls, output := true }
  let s := takeUnits e.demand e.cls s
  let s := forEach sch.requests (noticeOpened v) s
  countValve v (ValveCounters.granted late) (append (sprayBody v .opened sch late) s)

/-- A valve that has become due is arbitrated by itself (R78). -/
def arbitrate (v : Fin 12) (sch : Schedule) (s : State) : State :=
  if grantPossible s (s.valveEntry v).demand (s.valveEntry v).cls then grant v sch s
  else s.setValve v { st := .waiting sch s.time, output := false }

/-- A waiting valve at its turn in a scan (R77, R79): granted when possible and its close time is still ahead. -/
def scanValve (v : Fin 12) (s : State) : State :=
  match (s.valve v).st with
  | .waiting sch _ =>
    if grantPossible s (s.valveEntry v).demand (s.valveEntry v).cls && later sch.closeTime s.time then grant v sch s else s
  | _ => s

/-- The scan of the grant queue at the release of a grant (R79). -/
def releaseScan (s : State) : State := forEach (scanOrder s (valves12.filter (isWaiting s))) scanValve s

/-! ### Requests (R74, R75, R91) -/

/-- The list without its oldest id that no track in the table bears (R74). -/
def dropEnded (s : State) : List Byte → List Byte
  | [] => []
  | id :: rest => if (findTrack s id).isSome then id :: dropEnded s rest else rest

/-- An id joins a request list (R74). -/
def joinRequests (s : State) (id : Byte) (l : List Byte) : List Byte :=
  if l.contains id then l else if l.length < 32 then l ++ [id] else dropEnded s l ++ [id]

/-- A request taken as the whole schedule of a valve (R75, R91). -/
def SprayRequest.schedule (r : SprayRequest) : Schedule :=
  { openTime := r.openTime, closeTime := r.closeTime, lateStart := r.lateStart, merged := 1, requests := [r.track] }

/-- A request merged into a schedule; the open time is moved by the SCHEDULED row alone (R75). -/
def mergeSchedule (s : State) (r : SprayRequest) (sch : Schedule) : Schedule :=
  { sch with
    closeTime := laterOf sch.closeTime r.closeTime
    lateStart := sch.lateStart || r.lateStart
    merged := bump 255 sch.merged
    requests := joinRequests s r.track sch.requests }

/-- A due schedule is arbitrated, one with its open time ahead is SCHEDULED (R75, R78). -/
def scheduleOrArbitrate (v : Fin 12) (sch : Schedule) (s : State) : State :=
  if later sch.openTime s.time then s.setValve v { st := .scheduled sch, output := false } else arbitrate v sch s

/-- A real request takes over a valve in TEST (R91). -/
def takeOver (v : Fin 12) (r : SprayRequest) (s : State) : State :=
  let e := s.valveEntry v
  let s := append (.testResult (.spray v) .aborted) s
  let s := s.setValve v { st := .spraying r.schedule s.time false e.cls, output := true }
  let s := if e.cls = .filter then { s with spa := { s.spa with nonFilter := s.spa.nonFilter - e.demand } } else s
  let s := noticeOpened v r.track s
  countValve v (ValveCounters.granted false) (append (sprayBody v .opened r.schedule false) s)

/-- A spray request fitted into its valve (R75). -/
def requestSpray (v : Fin 12) (r : SprayRequest) (s : State) : State :=
  match (s.valve v).st with
  | .idle => scheduleOrArbitrate v r.schedule s
  | .scheduled sch =>
    scheduleOrArbitrate v { mergeSchedule s r sch with openTime := earlierOf sch.openTime r.openTime } s
  | .waiting sch since => s.setValve v { st := .waiting (mergeSchedule s r sch) since, output := false }
  | .spraying sch g l c =>
    noticeOpened v r.track (s.setValve v { st := .spraying (mergeSchedule s r sch) g l c, output := true })
  | .test _ _ => takeOver v r s

/-- A request finds its valve SCHEDULED, WAITING or OPEN: the merged flag of R92. -/
def mergesInto (s : State) (v : Fin 12) : Bool :=
  match (s.valve v).st with
  | .scheduled _ | .waiting _ _ | .spraying _ _ _ _ => true
  | .idle | .test _ _ => false

/-- The open time of a SCHEDULED valve is reached (R76). -/
def execOpenTimeReached (v : Fin 12) (s : State) : Host.Outcome State Fault Refusal :=
  .next (match (s.valve v).st with
    | .scheduled sch => if reached s.time sch.openTime then arbitrate v sch s else s
    | _ => s)

/-! ### The response sampler (R92 to R94) -/

/-- The new track `k` handed to the sampler, with its request if it made one (R92). -/
def sampleTrack (k : Track) (req : Option TaggedRequest) (s : State) : State :=
  match s.spa.sampler with
  | .armed =>
    if s.spa.samplerCount < s.globalEntry.samplerN - 1 then
      { s with spa := { s.spa with samplerCount := s.spa.samplerCount + 1 } }
    else
      match req with
      | none => s
      | some r =>
        updateTrack k.id (fun j => { j with tagged := true }) { s with spa := { s.spa with sampler := .tagged r none } }
  | _ => s

/-- The captured sample of the tagged request `r`, whose track ended `o` if it has ended (R93). -/
def makeSample (r : TaggedRequest) (o : Option TrackOutcome) (sch : Schedule) (grantTime : Time) (late missed : Bool)
    (now : Time) : Sample :=
  { request := r, grantTime := grantTime, closeTime := sch.closeTime, late := late, missed := missed
    outcome := o.getD .active, captured := now }

/-- The end of a schedule of valve `v`: the sampler captures when the tagged request is in it (R93). -/
def captureSample (v : Fin 12) (sch : Schedule) (grantTime : Time) (late missed : Bool) (s : State) : State :=
  match s.spa.sampler with
  | .tagged r o =>
    if r.valve = v then
      let x := makeSample r o sch grantTime late missed s.time
      append .sampleReady { s with spa := { s.spa with sampler := .valid x } }
    else s
  | _ => s

/-- The sample as SMPL carries it, 30 bytes (R179). -/
def Sample.encode (x : Sample) : List Byte :=
  [x.request.track, byte x.request.trunk.val, byte x.request.station.val, byte x.request.valve.val]
    ++ timeBytes x.request.detected ++ leBytes 2 x.request.transit ++ leBytes 2 x.request.early ++ timeBytes x.request.openTime
    ++ timeBytes x.grantTime ++ timeBytes x.closeTime
    ++ [byte (packBits [x.request.lateStart, x.late, x.missed, x.request.merged]), x.outcome.code] ++ timeBytes x.captured

/-- The sample bytes of the SMPL reply: 30 zero bytes unless VALID (R94). -/
def Sampler.sampleBytes : Sampler → List Byte
  | .valid x => x.encode
  | _ => List.replicate 30 0

def smplPayload (s : State) : List Byte :=
  [s.spa.sampler.code] ++ leBytes 2 s.spa.samplerCount ++ leBytes 2 s.globalEntry.samplerN ++ s.spa.sampler.sampleBytes

/-- The sampler rearmed, its counter loaded from the time counter (R94). -/
def rearmSampler (s : State) : State :=
  match s.spa.sampler with
  | .valid _ => { s with spa := { s.spa with sampler := .armed, samplerCount := s.time.toNat % 4 } }
  | _ => s

def serveSmpl (payload : List Byte) (s : State) : Answer :=
  match payload with
  | [b] =>
    match readFlag b with
    | none => .reject .range s
    | some rearm => .give (smplPayload s) (if rearm then rearmSampler s else s)
  | _ => .reject .range s

def execSmpl (tag : Byte) (payload : List Byte) (s : State) : Host.Outcome State Fault Refusal :=
  .next (takeRequest .smpl serveSmpl tag payload s)

/-! ### Missed sprays and closing (R82, R83) -/

/-- A waiting valve's request is missed (R82). The notices go in the order of the request list, and what they and the
arrival record stands before the SPRAY record: the model's choices of order (log entries 30 and 32). -/
def missSpray (v : Fin 12) (sch : Schedule) (s : State) : State :=
  let s := s.setValve v { st := .idle, output := false }
  let s := arriveMissed (valveTrunk s v) (forEach sch.requests (noticeMissed v) s)
  let s := countValve v (fun c => { c with missed := c.missed + 1 }) (append (sprayBody v .missed sch false) s)
  captureSample v sch 0 false true s

/-- The close time of a WAITING valve passes (R82). -/
def execSprayMissed (v : Fin 12) (s : State) : Host.Outcome State Fault Refusal :=
  .next (match (s.valve v).st with
    | .waiting sch _ => if passed s.time sch.closeTime then missSpray v sch s else s
    | _ => s)

/-- An OPEN valve closes (R83). The notices go in the order of the request list, which is the model's choice of order
(log entry 30). -/
def closeValve (v : Fin 12) (sch : Schedule) (granted : Time) (late : Bool) (c : ValveClass) (s : State) : State :=
  let s := releaseUnits (s.valveEntry v).demand c (s.setValve v { st := .idle, output := false })
  let s := forEach sch.requests (noticeClosed v) s
  releaseScan (captureSample v sch granted late false (append (sprayBody v .closed sch late) s))

/-- The close time of an OPEN valve is reached (R83). -/
def execValveClose (v : Fin 12) (s : State) : Host.Outcome State Fault Refusal :=
  .next (match (s.valve v).st with
    | .spraying sch g l c => if reached s.time sch.closeTime then closeValve v sch g l c s else s
    | _ => s)

/-! ### A rise of STALLED (R84) -/

/-- The effect of the rise on one valve of the trunk. -/
def stallValve (until_ : Time) (v : Fin 12) (s : State) : State :=
  match (s.valve v).st with
  | .scheduled sch =>
    s.setValve v { st := .scheduled { sch with openTime := s.time, closeTime := laterOf sch.closeTime until_ }, output := false }
  | .waiting sch since =>
    s.setValve v { st := .waiting { sch with closeTime := laterOf sch.closeTime until_ } since, output := false }
  | .spraying sch g l c =>
    s.setValve v { st := .spraying { sch with closeTime := laterOf sch.closeTime until_ } g l c, output := true }
  | _ => s

def arbitrateDue (v : Fin 12) (s : State) : State :=
  match (s.valve v).st with
  | .scheduled sch => arbitrate v sch s
  | _ => s

def isScheduled (s : State) (v : Fin 12) : Bool :=
  match (s.valve v).st with
  | .scheduled _ => true
  | _ => false

/-- A rise of STALLED of trunk `t`: its valves extended, and those made due arbitrated in policy order (R84). -/
def stallValves (t : Fin 4) (s : State) : State :=
  let mine := valves12.filter (fun v => decide (valveTrunk s v = t))
  let due := mine.filter (isScheduled s)
  let s := forEach mine (stallValve (after s.time (s.trunkEntry t).stallHold)) s
  forEach (scanOrder s due) arbitrateDue s

/-! ### Test sprays (R89, R90) -/

/-- An accepted test spray of `dur` ms (R89). -/
def startTestSpray (v : Fin 12) (dur : Nat) (s : State) : State :=
  let s := takeUnits (s.valveEntry v).demand .branch
    (s.setValve v { st := .test (after s.time dur) false, output := true })
  let s := s.setValve v { st := .test (after s.time dur) s.spa.flowProven, output := true }
  countValve v (fun c => { c with tests := c.tests + 1 }) s

def serveVtest (payload : List Byte) (s : State) : Answer :=
  match payload with
  | [vb, d0, d1] =>
    match readIndex 12 vb, readRange 100 10000 (u16 d0 d1) with
    | some v, some dur =>
      if (s.valveEntry v).enabled then
        if (s.trunkEntry (valveTrunk s v)).enabled && (s.trunk (valveTrunk s v)).prot.isHalt then
          if isIdle s v && grantPossible s (s.valveEntry v).demand .branch then .ok (startTestSpray v dur s)
          else .reject .busy s
        else .reject .refused s
      else .reject .range s
    | _, _ => .reject .range s
  | _ => .reject .range s

def execVtest (tag : Byte) (payload : List Byte) (s : State) : Host.Outcome State Fault Refusal :=
  .next (takeRequest .vtest serveVtest tag payload s)

/-- A test spray ends (R90). -/
def endTestSpray (v : Fin 12) (seen : Bool) (s : State) : State :=
  let s := releaseUnits (s.valveEntry v).demand .branch (s.setValve v { st := .idle, output := false })
  releaseScan (append (.testResult (.spray v) (if seen then .pass else .fail)) s)

def execTestSprayEnd (v : Fin 12) (s : State) : Host.Outcome State Fault Refusal :=
  .next (match (s.valve v).st with
    | .test ends seen => if reached s.time ends then endTestSpray v seen s else s
    | _ => s)

end Sys2Proof.Machine
end

