-- ==== Sys2Proof/Machine/Correlator.lean ====
section
/-! DEFINITION. What the track correlator does with a detection and with a station fault
(sections 3.3 to 3.5). -/

namespace Sys2Proof.Machine

/-! ### Ids (R41) -/

/-- Some track in the table bears `id`. -/
def bearsId (s : State) (id : Byte) : Bool := s.trc.tracks.any (fun k => decide (k.id = id))

/-- The first of the values from `id` on that no track bears, within `n` steps. -/
def freeId (s : State) : Nat → Byte → Byte
  | 0, id => id
  | n + 1, id => if bearsId s id then freeId s n (id + 1) else id

/-- The id a new track takes: a free value is reached within 32 steps (R41). -/
def newId (s : State) : Byte := freeId s 32 s.trc.idCounter

/-! ### Requests and next stations (R49, R50, R52) -/

/-- The spray request of a sighting of track `id` at station `i` at time `t`, if R49 allows one. -/
def askSpray (i : Fin 16) (t : Time) (id : Byte) (s : State) : State :=
  match requestedValve s i with
  | none => s
  | some v =>
    requestSpray v (spraySchedule s i v t id)
      (updateTrack id (fun k => { k with valve := some v, outcome := .scheduled, sprayClosed := false }) s)

/-- The next station chosen from `q` for track `id`, with its window from the last sighting; a test
running at the station chosen is aborted (R50, R52). -/
def setNext (id : Byte) (q last : Fin 16) (t : Time) (s : State) : State :=
  match nextStation s q with
  | none => updateTrack id (fun k => { k with next := none }) s
  | some n => abortTest n (updateTrack id (fun k => { k with next := some (arrivalWindow s last t n) }) s)

/-- A sighting at the inlet station judged (R65). -/
def judgeInlet (id : Byte) (asked : Bool) (s : State) : State :=
  if asked then judgeTrack id s
  else
    match findTrack s id with
    | none => s
    | some k => if k.next.isSome then s else endTrack k .unconfirmed s

/-- The judgement that follows a sighting at station `i` (R54 step 4, R56). -/
def judgeSighting (i : Fin 16) (id : Byte) (asked : Bool) (s : State) : State :=
  if isInlet s i then judgeInlet id asked s else judgeTrack id s

/-! ### Detections (R53 to R57) -/

/-- The track expects a sighting at station `i` at time `t`. -/
def Track.expects (k : Track) (i : Fin 16) (t : Time) : Bool :=
  match k.next with
  | none => false
  | some e => decide (e.station = i) && e.holds t

/-- The oldest track whose next station is `i` and whose window holds `t` (R53). -/
def matchTrack (s : State) (i : Fin 16) (t : Time) : Option Track := s.trc.tracks.find? (fun k => k.expects i t)

/-- The track after a matched sighting (R54 steps 1 and 2). -/
def Track.sighted (k : Track) (i : Fin 16) (t : Time) : Track :=
  { k with
    last := i, lastTime := t, sightings := bump 255 k.sightings
    passes := if k.outcome = .opened then bump 255 k.passes else k.passes }

/-- A detection matched to track `k` (R54, R55). -/
def matchSighting (i : Fin 16) (t : Time) (k : Track) (s : State) : State :=
  let s := updateTrack k.id (fun k => k.sighted i t) s
  if isInlet s i && decide (1 ≤ (k.sighted i t).passes) then endTrack (k.sighted i t) .survived s
  else
    judgeSighting i k.id (requestedValve s i).isSome (setNext k.id i i t (askSpray i t k.id s))

/-- The oldest track of a full table is evicted (R57). -/
def makeRoom (s : State) : State :=
  match s.trc.tracks with
  | [] => s
  | k :: _ => if s.trc.tracks.length < 32 then s else endTrack k .discarded s

/-- A track at its creation (R56). -/
def newTrack (id : Byte) (trunk : Fin 4) (i : Fin 16) (t : Time) : Track :=
  { id := id, trunk := trunk, origin := i, originTime := t, last := i, lastTime := t, peak := 0, sightings := 1, next := none
    valve := none, outcome := .none, sprayClosed := false, passes := 0, tagged := false }

/-- The request the sampler keeps when it tags this track (R92). -/
def taggedOf (s : State) (i : Fin 16) (t : Time) (id : Byte) : Option TaggedRequest :=
  match requestedValve s i with
  | none => none
  | some v =>
    let r := spraySchedule s i v t id
    some { track := id, trunk := stationTrunk s i, station := i, valve := v, detected := t, transit := r.transit
           early := r.early, openTime := r.openTime, lateStart := r.lateStart, merged := mergesInto s v }

/-- A new track with id `id` at the tail of a table that has room: its request, the sampler, its next
station, its judgement, and its arrival and count (R56). The arrival at the trunk controller comes last, after
the track's judgement and record, which is the model's choice of order (log entry 30). -/
def createTrack (i : Fin 16) (t : Time) (id : Byte) (s : State) : State :=
  let trunk := stationTrunk s i
  let k := newTrack id trunk i t
  let tagged := taggedOf s i t id
  let s := { s with trc := { tracks := s.trc.tracks ++ [k], idCounter := id + 1 } }
  let s := sampleTrack k tagged (askSpray i t id s)
  let s := countTrunk trunk (fun c => { c with newTracks := c.newTracks + 1 }) s
  arriveNew trunk (judgeSighting i id tagged.isSome (setNext id i i t s))

/-- The id of the track a detection matches or creates. -/
def sightedId (s : State) (i : Fin 16) (t : Time) : Byte :=
  match matchTrack s i t with
  | some k => k.id
  | none => newId (makeRoom s)

/-- A detection at station `i` at time `t`: matched, or a new track (R53). -/
def sighting (i : Fin 16) (t : Time) (s : State) : State :=
  match matchTrack s i t with
  | some k => matchSighting i t k s
  | none => createTrack i t (newId (makeRoom s)) (makeRoom s)

/-! ### The end of a run and a station fault (R58, R51) -/

/-- The peak of a run handed to its track, if the track is in the table (R58). -/
def raisePeak (id : Byte) (peak : Nat) (s : State) : State := updateTrack id (fun k => { k with peak := max k.peak peak }) s

/-- The track awaits its spark at station `i`. -/
def Track.awaits (k : Track) (i : Fin 16) : Bool :=
  match k.next with
  | none => false
  | some e => decide (e.station = i)

/-- A track whose next station has faulted: a new next station, the passing of a window computed in
the past, or the judgement of a track left without one (R51). A test at the new next station is aborted before the
passing or the judgement ends the track, so its TEST_RESULT record stands before TRACK_END (R35, R52): the model's choice
of order (log entry 30). -/
def retargetTrack (i : Fin 16) (k : Track) (s : State) : State :=
  judgeTrack k.id (passWindow k.id (setNext k.id i k.last k.lastTime s))

/-- A station's entry to FAULT handed to the correlator (R51). The tracks that await it are moved and ended in
table order, oldest first, which is the model's choice (log entry 30). -/
def retarget (i : Fin 16) (s : State) : State := forEach (s.trc.tracks.filter (·.awaits i)) (retargetTrack i) s

end Sys2Proof.Machine
end

