-- ==== Sys2Proof/Machine/Detector.lean ====
section
/-! DEFINITION. The detector front end (chapter 2). -/

namespace Sys2Proof.Machine

/-! ### Runs (R26 to R30) -/

/-- The run of station `i` is gone, and a standing light it had become clears (R30). -/
def dropRun (i : Fin 16) (s : State) : State :=
  let was := (s.station i).standing
  let s := s.setStation i { s.station i with run := none, standing := false }
  if was then causeChanged (stationZone s i) s else s

/-- The run length of a DETECT record (R27). -/
def runLength (detected ended : Time) : Nat := min 65535 (ended - detected).toNat

/-- The DETECT record of run `r` (R27). -/
def detectBody (i : Fin 16) (r : Run) (ended : Time) : Body :=
  .detect i r.detected r.peak (runLength r.detected ended) (r.track.getD 0)

/-- An open run ends with end time `ended` (R27), its effects in the order the rule lists them (log entry 32). -/
def endRun (i : Fin 16) (ended : Time) (s : State) : State :=
  match (s.station i).run with
  | none => s
  | some r =>
    let s := raisePeak (r.track.getD 0) r.peak (append (detectBody i r ended) s)
    dropRun i (countStation i (countBand s.globalEntry r.peak) s)

/-- The detection event: the run opens, and the correlator hands the track's id back (R26). -/
def openRun (i : Fin 16) (value : Nat) (s : State) : State :=
  let s := s.setStation i { s.station i with run := some { detected := s.time, peak := value, track := none } }
  let id := sightedId s i s.time
  let s := sighting i s.time s
  s.setStation i { s.station i with run := (s.station i).run.map (fun r => { r with track := some id }) }

/-- The run becomes a standing light (R29): the zone is handed it before the trunks (log entry 32). -/
def becomeStanding (i : Fin 16) (s : State) : State :=
  let s := s.setStation i { s.station i with standing := true }
  causeChanged (stationZone s i) (countStation i (fun c => { c with standing := c.standing + 1 }) s)

/-! ### Entry to FAULT and moves between states (R23, R31, R32) -/

def Scan.isTest : Scan → Bool
  | .test _ _ => true
  | _ => false

/-- Station `i` enters FAULT with the condition reported (R31), its effects in the order the rule lists them (log
entry 32). -/
def enterFault (i : Fin 16) (c : LoopFault) (s : State) : State :=
  let testing := (s.station i).scan.isTest
  let s := dropRun i (s.setStation i { s.station i with scan := .fault c })
  let s := if testing then endHeadTest i .fail s else s
  let s := countStation i (fun c => { c with faults := c.faults + 1 }) s
  retarget i (append (.fault (.station i c) true) s)

/-- A station goes to OFF from a scanning state: an open run ends now (R28). -/
def stopScanning (i : Fin 16) (s : State) : State := endRun i s.time (s.setStation i { s.station i with scan := .off })

/-- A station leaves FAULT for the scan state `scan`, with the clear record of the entry's code (R32). -/
def leaveFault (i : Fin 16) (c : LoopFault) (scan : Scan) (s : State) : State :=
  append (.fault (.station i c) false) (s.setStation i { s.station i with scan := scan })

/-- A station in OFF with a scanning state selected: that state, or FAULT when its loop is out of band (R31). -/
def leaveOff (i : Fin 16) (s : State) : State :=
  match (s.station i).loop with
  | none => s.setStation i { s.station i with scan := selectedScan s i }
  | some c => enterFault i c s

/-- The station selects its state anew (R23): after a table write, or at the release of scanning. -/
def reselect (i : Fin 16) (s : State) : State :=
  let off := decide (selectedPace s i = .off)
  match (s.station i).scan with
  | .off => if off then s else leaveOff i s
  | .cont | .duty _ _ _ => if off then stopScanning i s else repaceStation i s
  | .test _ _ => if off then leaveTest i .aborted s else s
  | .fault c => if off then leaveFault i c .off s else s

/-- Scanning is released, and every station selects its state (R24), in rising index, which is the model's
choice of order (log entry 30). -/
def releaseScanning (s : State) : State :=
  if s.dfe.released then s else forEach all16 reselect { s with dfe := { s.dfe with released := true } }

/-! ### Samples (R25 to R27, R34) -/

/-- Station `i` takes a sample now: continuously, inside an open duty window, or during a test after
its start and up to the expiry of its test window. -/
def takesSample (s : State) (i : Fin 16) : Bool :=
  match (s.station i).scan with
  | .cont => true
  | .duty opened isOpen _ => isOpen && decide ((s.time - opened).toNat < 20)
  | .test start expiry => later s.time start && !later s.time expiry
  | .off | .fault _ => false

/-- The end level of a station (R21). -/
def endLevel (e : StationEntry) : Nat := e.threshold - e.hysteresis

/-- A sample of a scanning station (R26, R27). -/
def scanSample (i : Fin 16) (value : Nat) (s : State) : State :=
  match (s.station i).run with
  | none => if (s.stationEntry i).threshold ≤ value then openRun i value s else s
  | some r =>
    if value < endLevel (s.stationEntry i) then endRun i s.time s
    else s.setStation i { s.station i with run := some { r with peak := max r.peak value } }

/-- A sample taken: the last sample, then the test or the run it feeds. -/
def takeSample (i : Fin 16) (value : Nat) (s : State) : State :=
  let s := s.setStation i { s.station i with lastSample := value, lastSampleTime := s.time }
  if (s.station i).scan.isTest then
    if (s.stationEntry i).testThreshold ≤ value then leaveTest i .pass s else s
  else scanSample i value s

def execDetectorSample (i : Fin 16) (value : BitVec 12) (s : State) : Host.Outcome State Fault Refusal :=
  .next (if takesSample s i then takeSample i value.toNat s else s)

/-! ### Duty windows (R25, R28) -/

/-- The next duty window opens one duty interval after the one before. -/
def execDutyWindowOpen (i : Fin 16) (s : State) : Host.Outcome State Fault Refusal :=
  .next (match (s.station i).scan with
    | .duty _ false next => if reached s.time next then s.setStation i { s.station i with scan := dutyNow s } else s
    | _ => s)

/-- A duty window ends, and a run open in it with it. -/
def execDutyWindowEnd (i : Fin 16) (s : State) : Host.Outcome State Fault Refusal :=
  .next (match (s.station i).scan with
    | .duty opened true next =>
      if reached s.time (after opened 20) then
        endRun i (after opened 20) (s.setStation i { s.station i with scan := .duty opened false next })
      else s
    | _ => s)

/-- The time at which a window opened at `opened` is followed by the next under a changed interval;
one not later than now opens now (R25). -/
def dutyRewritten (i : Fin 16) (s : State) : State :=
  match (s.station i).scan with
  | .duty opened isOpen _ =>
    let next := after opened s.globalEntry.dutyInterval
    s.setStation i { s.station i with scan := if reached s.time next then dutyNow s else .duty opened isOpen next }
  | _ => s

/-! ### Standing lights (R29) -/

/-- An open run has reached the standing time of its station. -/
def standingDue (s : State) (i : Fin 16) : Bool :=
  match (s.station i).run with
  | none => false
  | some r => !(s.station i).standing && reached s.time (after r.detected (s.stationEntry i).standingTime)

def execStandingTimeReached (i : Fin 16) (s : State) : Host.Outcome State Fault Refusal :=
  .next (if standingDue s i then becomeStanding i s else s)

/-! ### Loop supervision (R31, R32) -/

/-- The front end reports a loop fault; it acts on a station in a scanning state or in TEST. -/
def execLoopFault (i : Fin 16) (c : LoopFault) (s : State) : Host.Outcome State Fault Refusal :=
  let s := s.setStation i { s.station i with loop := some c }
  .next (match (s.station i).scan with
    | .cont | .duty _ _ _ | .test _ _ => enterFault i c s
    | .off | .fault _ => s)

/-- The loop returns to its normal band. -/
def execLoopRecovery (i : Fin 16) (s : State) : Host.Outcome State Fault Refusal :=
  let s := s.setStation i { s.station i with loop := none }
  .next (match (s.station i).scan with
    | .fault c => leaveFault i c (selectedScan s i) s
    | _ => s)

/-! ### HTEST (R33) and the end of the test window (R34) -/

/-- An accepted HTEST. -/
def startHeadTest (i : Fin 16) (s : State) : State :=
  let s := endRun i s.time s
  s.setStation i
    { s.station i with
      scan := .test s.time (after s.time s.globalEntry.testWindow), lastResult := .running, emitter := true }

def serveHtest (payload : List Byte) (s : State) : Answer :=
  match payload with
  | [b] =>
    match readIndex 16 b with
    | none => .reject .range s
    | some i =>
      if (s.stationEntry i).enabled then
        match (s.station i).scan with
        | .test _ _ => .reject .busy s
        | .off | .fault _ => .reject .refused s
        | .cont | .duty _ _ _ => if awaited s i then .reject .refused s else .ok (startHeadTest i s)
      else .reject .range s
  | _ => .reject .range s

def execHtest (tag : Byte) (payload : List Byte) (s : State) : Host.Outcome State Fault Refusal :=
  .next (takeRequest .htest serveHtest tag payload s)

def execTestWindowExpiry (i : Fin 16) (s : State) : Host.Outcome State Fault Refusal :=
  .next (match (s.station i).scan with
    | .test _ expiry => if reached s.time expiry then leaveTest i .fail s else s
    | _ => s)

/-! ### VIEW (R36, R37) -/

/-- The members of a view set whose entries are enabled, in rising index. -/
def viewMembers (s : State) (set : BitVec 16) : List (Fin 16) :=
  all16.filter (fun i => set.getLsbD i.val && (s.stationEntry i).enabled)

/-- A station as VIEW shows it (R179). -/
def viewPayload (s : State) (i : Fin 16) : List Byte :=
  [byte i.val, (s.station i).scan.code] ++ leBytes 2 (s.station i).lastSample ++ timeBytes (s.station i).lastSampleTime

/-- VIEW with a mask: the rotation restarts (R36). -/
def serveViewMask (mask : BitVec 16) (s : State) : Answer :=
  match viewMembers s mask with
  | [] => .reject .range s
  | i :: _ => .give (viewPayload s i) { s with dfe := { s.dfe with viewSet := mask, viewPos := some i } }

/-- The member that follows the view position (R37). -/
def rotate (members : List (Fin 16)) (first : Fin 16) : Option (Fin 16) → Fin 16
  | none => first
  | some p => (members.find? (fun i => decide (p < i))).getD first

/-- VIEW without a mask: the rotation goes on (R37). -/
def serveViewNext (s : State) : Answer :=
  match viewMembers s s.dfe.viewSet with
  | [] => .reject .range s
  | first :: rest =>
    let i := rotate (first :: rest) first s.dfe.viewPos
    .give (viewPayload s i) { s with dfe := { s.dfe with viewPos := some i } }

def serveView (payload : List Byte) (s : State) : Answer :=
  match payload with
  | [] => serveViewNext s
  | [lo, hi] => serveViewMask (BitVec.ofNat 16 (u16 lo hi)) s
  | _ => .reject .range s

def execViewMask (tag : Byte) (payload : List Byte) (s : State) : Host.Outcome State Fault Refusal :=
  .next (takeRequest .view serveView tag payload s)

def execViewNext (tag : Byte) (s : State) : Host.Outcome State Fault Refusal :=
  .next (takeRequest .view (fun _ => serveViewNext) tag [] s)

/-! ### STATION and TRUNK writes (R22, R28) -/

/-- A STATION entry replaced: an open run ends under the old entry, a test ends ABORTED, and the
state is selected from the new entry (R22). -/
def writeStation (i : Fin 16) (e : StationEntry) (s : State) : State :=
  let s := endRun i s.time s
  let s := s.setTables { s.cfs.tables with station := s.cfs.tables.station.set i e }
  match (s.station i).scan with
  | .test _ _ => leaveTest i .aborted s
  | _ => reselect i s

/-- The stations of trunk `t` select their states after a TRUNK write (R23), in rising index, which is the
model's choice of order (log entry 30). -/
def reselectTrunk (t : Fin 4) (s : State) : State := forEach (all16.filter (fun i => decide (stationTrunk s i = t))) reselect s

end Sys2Proof.Machine
end

