-- ==== Sys2Proof/Machine/Airflow.lean ====
section
/-! DEFINITION. The airflow monitor (sections 1.5 to 1.7) and what it does at a TRUNK write (R5). -/

namespace Sys2Proof.Machine

/-- STALLED tested against v_f, and a rise handed to the correlator and the spray arbiter (R16, R17). -/
def testStalled (t : Fin 4) (s : State) : State :=
  let stalled := stalledAfter (s.trunkEntry t).vStall (s.air t).vf (s.air t).stalled
  let rises := stalled && !(s.air t).stalled
  let s := s.setAir t { s.air t with stalled := stalled }
  if rises then stallValves t (stallTracks t s) else s

/-- v_f becomes `v`, and is handed on to the STALLED test and the trunk controller (R12, R14). The two take no order
(R12); the model makes the STALLED test first, so the SPRAY records of a rise stand before the trunk's (log entry 30). -/
def moveVelocity (t : Fin 4) (v : Nat) (s : State) : State :=
  velocityChanged t (testStalled t (s.setAir t { s.air t with vf := v }))

/-- The trunk is in VELOCITY_FAULT. -/
def inVelocityFault (s : State) (t : Fin 4) : Bool := decide ((s.air t).stage ≠ .clear)

/-- A velocity fault ends with its clear record (R15). -/
def endVelocityFault (t : Fin 4) (s : State) : State :=
  if inVelocityFault s t then
    append (.fault (.velocity t) false)
      (s.setAir t { s.air t with stage := .clear, faultStart := none, holdExpiry := none })
  else s

/-- Readings of trunk `t` are taken: the load has completed and the trunk is enabled (R11, R20). -/
def takesReadings (s : State) (t : Fin 4) : Bool := decide (s.cfs.mode ≠ .start) && (s.trunkEntry t).enabled

/-- A good reading through the filter; a step of 0 hands nothing on (R12). -/
def filterReading (t : Fin 4) (r : Nat) (s : State) : State :=
  if filterStep (s.air t).vf r = (s.air t).vf then s else moveVelocity t (filterStep (s.air t).vf r) s

/-- A good reading, a value above 5000 taken as 5000 (R11, R12, R15). -/
def execGoodReading (t : Fin 4) (value : Nat) (s : State) : Host.Outcome State Fault Refusal :=
  .next (if takesReadings s t then filterReading t (min value 5000) (endVelocityFault t s) else s)

/-- A velocity fault begins (R13). -/
def beginVelocityFault (t : Fin 4) (s : State) : State :=
  append (.fault (.velocity t) true)
    (s.setAir t
      { s.air t with
        stage := .hold, faultStart := some s.time
        holdExpiry := some (after s.time (seconds (s.trunkEntry t).velHold)) })

/-- An out-of-range indication; in HOLD and FALLBACK it changes nothing (R13, R14). -/
def execOutOfRangeReading (t : Fin 4) (s : State) : Host.Outcome State Fault Refusal :=
  .next (if takesReadings s t && !inVelocityFault s t then beginVelocityFault t s else s)

/-- The hold expiry: FALLBACK, and v_f takes the fallback velocity (R14). -/
def fallBack (t : Fin 4) (s : State) : State :=
  moveVelocity t (s.trunkEntry t).fallback (s.setAir t { s.air t with stage := .fallback, holdExpiry := none })

def execHoldExpiry (t : Fin 4) (s : State) : Host.Outcome State Fault Refusal :=
  .next (if expired s.time (s.air t).holdExpiry then fallBack t s else s)

/-! ### TRUNK writes (R5) -/

/-- A changed velocity hold time moves the hold expiry, and takes it at once when it is not later than now. -/
def velHoldWritten (old : TrunkEntry) (t : Fin 4) (s : State) : State :=
  match (s.air t).stage, (s.air t).faultStart with
  | .hold, some began =>
    if old.velHold = (s.trunkEntry t).velHold then s
    else
      let e := after began (seconds (s.trunkEntry t).velHold)
      if reached s.time e then fallBack t s else s.setAir t { s.air t with holdExpiry := some e }
  | _, _ => s

/-- A changed fallback velocity is taken in FALLBACK. -/
def fallbackWritten (old : TrunkEntry) (t : Fin 4) (s : State) : State :=
  match (s.air t).stage with
  | .fallback => if old.fallback = (s.trunkEntry t).fallback then s else moveVelocity t (s.trunkEntry t).fallback s
  | _ => s

/-- A TRUNK write has replaced the entry `old`: what AFM does, bullet by bullet (R5). -/
def airWritten (old : TrunkEntry) (t : Fin 4) (s : State) : State :=
  let new := s.trunkEntry t
  if !old.enabled && new.enabled then s.setAir t TrunkAir.reset
  else if old.enabled && !new.enabled then (endVelocityFault t s).setAir t TrunkAir.reset
  else if new.enabled then
    fallbackWritten old t (velHoldWritten old t (if old.vStall = new.vStall then s else testStalled t s))
  else s

end Sys2Proof.Machine
end

