-- ==== Sys2Proof/Machine/Validation.lean ====
section
/-! DEFINITION. The validation of the working tables (R192, R10) and what follows it at a CFGOUT, by
request or by the keyswitch (R193). -/

namespace Sys2Proof.Machine

/-- One check on one entry: where it stands, its code, and whether the entry passes. -/
structure Check where
  table : Nat
  index : Nat
  code : Nat
  passes : Bool
deriving DecidableEq, Repr

/-- The zone is enabled and of this kind. -/
def zoneIs (s : State) (z : Fin 16) (k : ZoneKind) : Bool := (s.zoneEntry z).enabled && decide ((s.zoneEntry z).kind = k)

def trunkChecks (s : State) (t : Fin 4) : List Check :=
  let e := s.trunkEntry t
  if e.enabled then
    [⟨0, t, 1, zoneIs s e.filterZone .filter⟩, ⟨0, t, 2, decide (e.vStall ≤ e.vRun) && decide (e.vStall ≤ e.fallback)⟩]
  else []

def branchChecks (s : State) (b : Fin 16) : List Check :=
  let e := s.branchEntry b
  if e.enabled then [⟨1, b, 3, (s.trunkEntry e.trunk).enabled⟩, ⟨1, b, 4, zoneIs s e.hallZone .hall⟩] else []

/-- Checks 5 to 7 on a position. -/
def positionChecks (s : State) (table index : Nat) (p : Position) : List Check :=
  let onBranch (f : Fin 16 → Bool) : Bool := match p.branch with
    | none => true
    | some b => f b
  [⟨table, index, 5, (s.trunkEntry p.trunk).enabled⟩,
   ⟨table, index, 6, onBranch (fun b => (s.branchEntry b).enabled && decide ((s.branchEntry b).trunk = p.trunk))⟩,
   ⟨table, index, 7, onBranch (fun b => decide ((s.branchEntry b).junction < p.dist))⟩]

/-- Check 10: the station's valve is downstream of it, or at its position (R10). -/
def valveBelow (s : State) (p : Position) (v : Fin 12) : Bool :=
  downstream s (s.valveEntry v).pos p || decide ((s.valveEntry v).pos = p)

/-- A lower-indexed enabled station of the same trunk has inlet 1 (check 12). -/
def earlierInlet (s : State) (i : Fin 16) : Bool :=
  all16.any (fun j => decide (j < i) && (s.stationEntry j).enabled && (s.stationEntry j).inlet &&
    decide (stationTrunk s j = stationTrunk s i))

def stationChecks (s : State) (i : Fin 16) : List Check :=
  let e := s.stationEntry i
  let onValve (f : Fin 12 → Bool) : Bool := match e.valve with
    | none => true
    | some v => f v
  if e.enabled then
    positionChecks s 2 i e.pos ++
      [⟨2, i, 8, decide (e.hysteresis < e.threshold)⟩,
       ⟨2, i, 9, onValve (fun v => (s.valveEntry v).enabled)⟩,
       ⟨2, i, 10, onValve (valveBelow s e.pos)⟩,
       ⟨2, i, 11, !e.inlet || e.pos.branch.isNone⟩,
       ⟨2, i, 12, !e.inlet || !earlierInlet s i⟩]
  else []

def valveChecks (s : State) (v : Fin 12) : List Check :=
  if (s.valveEntry v).enabled then positionChecks s 3 v (s.valveEntry v).pos else []

def supplyChecks (s : State) : List Check :=
  let e := s.supplyEntry
  [⟨4, 0, 13, decide (e.reserve < e.capacity) &&
    valves12.all (fun v => !(s.valveEntry v).enabled || decide ((s.valveEntry v).demand ≤ e.capacity))⟩]

/-- Check 14: the entry a role names is enabled. -/
def roleNamesEnabled (s : State) : Role → Bool
  | .call z | .heat z => (s.zoneEntry z).enabled
  | .fan t | .gate t => (s.trunkEntry t).enabled
  | .door d => (s.doorEntry d).enabled
  | .none | .flow | .key => true

/-- Any number of inputs may be call points and heat detectors; every other role is single (R132). -/
def Role.isSingle : Role → Bool
  | .none | .call _ | .heat _ => false
  | .flow | .fan _ | .gate _ | .door _ | .key => true

/-- Check 15: no lower-indexed input has the single role of input `i`. -/
def earlierRole (s : State) (i : Fin 32) : Bool :=
  inputs32.any (fun j => decide (j < i) && decide ((s.inputEntry j).role = (s.inputEntry i).role))

def inputChecks (s : State) (i : Fin 32) : List Check :=
  if (s.inputEntry i).role = .none then []
  else
    [⟨7, i, 14, roleNamesEnabled s (s.inputEntry i).role⟩,
     ⟨7, i, 15, !((s.inputEntry i).role.isSingle && earlierRole s i)⟩]

def doorChecks (s : State) (d : Fin 16) : List Check :=
  let e := s.doorEntry d
  let zoneB : Bool := match e.zoneB with
    | none => true
    | some z => (s.zoneEntry z).enabled
  let fan : Bool := match e.interlock with
    | none => true
    | some t => (s.trunkEntry t).enabled
  if e.enabled then [⟨8, d, 16, (s.zoneEntry e.zoneA).enabled && zoneB && fan⟩] else []

/-- A pattern field is none or names a pattern with at least one step. -/
def patternSounds (s : State) : Option (Fin 8) → Bool
  | none => true
  | some p => !isSilent s p

/-- Check 19: the partner is an enabled siren whose partner field names this siren. -/
def partnersAgree (s : State) (i : Fin 8) : Bool :=
  match (s.sirenEntry i).partner with
  | none => true
  | some p => (s.sirenEntry p).enabled && decide ((s.sirenEntry p).partner = some i)

def sirenChecks (s : State) (i : Fin 8) : List Check :=
  let e := s.sirenEntry i
  if e.enabled then
    [⟨9, i, 17, all16.all (fun z => !covers e z || (s.zoneEntry z).enabled)⟩,
     ⟨9, i, 18, patternSounds s e.watchPattern && patternSounds s e.alertPattern && patternSounds s e.firePattern⟩,
     ⟨9, i, 19, partnersAgree s i⟩]
  else []

/-- Every check, in rising table id, rising index, and the order of the table of R192. -/
def allChecks (s : State) : List Check :=
  trunks4.flatMap (trunkChecks s) ++ all16.flatMap (branchChecks s) ++ all16.flatMap (stationChecks s)
    ++ valves12.flatMap (valveChecks s) ++ supplyChecks s ++ inputs32.flatMap (inputChecks s)
    ++ all16.flatMap (doorChecks s) ++ sirens8.flatMap (sirenChecks s)

/-- The first failing check ends validation (R192). -/
def firstFailing (s : State) : Option Check := (allChecks s).find? (fun c => !c.passes)

/-! ### CFGOUT (R193) -/

/-- A standing CONFIG_INVALID fault ends with its clear record. -/
def endConfigInvalid (s : State) : State :=
  if s.cfs.configInvalid then append (.fault .configInvalid false) { s with cfs := { s.cfs with configInvalid := false } } else s

/-- Every check has passed: ARMED, scanning released, a CONFIG_INVALID fault ends (R193), in the order the rule lists
them, which is the model's choice (log entry 32). -/
def enterArmed (s : State) : State := endConfigInvalid (releaseScanning { s with cfs := { s.cfs with mode := .armed } })

def serveCfgout (_ : List Byte) (s : State) : Answer :=
  match firstFailing s with
  | none => .ok (enterArmed s)
  | some c => { st := s, result := .refused, payload := [byte c.table, byte c.index, byte c.code] }

def execCfgout (tag : Byte) (payload : List Byte) (s : State) : Host.Outcome State Fault Refusal :=
  .next (takeRequest .cfgout serveCfgout tag payload s)

/-- A failing check found by the keyswitch: CONFIG_INVALID set with its urgent record, unless it stands. -/
def setConfigInvalid (s : State) : State :=
  if s.cfs.configInvalid then s else append (.fault .configInvalid true) { s with cfs := { s.cfs with configInvalid := true } }

/-- The keyswitch turned to OPERATE in CONFIGURE is taken as a CFGOUT. -/
def keyOut (s : State) : State := if (firstFailing s).isNone then enterArmed s else setConfigInvalid s

/-- The keyswitch position handed by FIU, `true` being MAINTAIN (R134, R193). -/
def handKey (maintain : Bool) (s : State) : State :=
  if s.cfs.key = maintain then s
  else
    let s := { s with cfs := { s.cfs with key := maintain } }
    if maintain = false ∧ s.cfs.mode = .configure then keyOut s else s

end Sys2Proof.Machine
end

