-- ==== Sys2Proof/Machine/Inputs.lean ====
section
/-! DEFINITION. The field input unit (sections 6.7 to 6.12). -/

namespace Sys2Proof.Machine

/-! ### Hand-off to the receivers (R132) -/

/-- The active state of an input handed to the receiver of role `r`; the causes of ZNT are gathered
from all inputs of the role (R121, R132). -/
def handRole (r : Role) (active : Bool) (s : State) : State :=
  match r with
  | .none => s
  | .call z => causeChanged z s
  | .heat z => causeChanged z s
  | .flow => handFlow active s
  | .fan t => handFan t active s
  | .gate t => handGate t active s
  | .door d => handContact d active s
  | .key => handKey active s

/-- Input `i` is handed to the receiver of its role: every call point and heat detector, and the
lowest-indexed input of every single role (R132). -/
def isHanded (s : State) (i : Fin 32) : Bool :=
  if (s.inputEntry i).role.isSingle then decide (handedInput s (s.inputEntry i).role = some i)
  else decide ((s.inputEntry i).role ≠ .none)

/-- An INPUT record, unless the role is NONE (R133). -/
def recordInput (i : Fin 32) (active : Bool) (s : State) : State :=
  if (s.inputEntry i).role = .none then s else append (.input i active) s

/-- The active state of input `i` formed anew; a change is recorded and handed on (R131 to R133). The INPUT record
stands before what the receiver records, which is the model's choice of order (log entry 30). -/
def formActive (i : Fin 32) (s : State) : State :=
  let x := s.input i
  let active := activeState (s.inputEntry i).sense x.debounced x.latch
  if active = x.active then s
  else
    let s := recordInput i active (s.setInput i { x with active := active })
    if isHanded s i then handRole (s.inputEntry i).role active s else s

/-! ### Debouncing (R130) -/

/-- The debounced state takes the raw state; an edge to the operated level sets the latch (R130, R131). -/
def takeDebounced (i : Fin 32) (s : State) : State :=
  let x := s.input i
  let sense := (s.inputEntry i).sense
  formActive i
    (s.setInput i
      { x with debounced := x.raw, differs := none, latch := x.latch || (sense.isEdge && x.raw == sense.operated) })

/-- The first sample that shows a difference: a debounce runs, or with a debounce time of 0 has run. -/
def beginDebounce (i : Fin 32) (s : State) : State :=
  let s := s.setInput i { s.input i with differs := some s.time }
  if (s.inputEntry i).debounce = 0 then takeDebounced i s else s

/-- The raw state reads `high` (R130); before the load completes no debounce runs (R137). -/
def rawReads (i : Fin 32) (high : Bool) (s : State) : State :=
  let s := s.setInput i { s.input i with raw := high }
  if s.cfs.mode = .start then s
  else if high = (s.input i).debounced then s.setInput i { s.input i with differs := none }
  else
    match (s.input i).differs with
    | some _ => s
    | none => beginDebounce i s

def execRawInputChange (i : Fin 32) (high : Bool) (s : State) : Host.Outcome State Fault Refusal := .next (rawReads i high s)

/-- A running debounce has held for the debounce time. -/
def debounceDue (s : State) (i : Fin 32) : Bool :=
  match (s.input i).differs with
  | none => false
  | some t => reached s.time (after t (s.inputEntry i).debounce)

def execDebounceExpiry (i : Fin 32) (s : State) : Host.Outcome State Fault Refusal :=
  .next (if debounceDue s i then takeDebounced i s else s)

/-! ### INPUT writes (R133) -/

/-- With its old single role `r`, input `i` was the one handed: no lower-indexed other input has the role. -/
def wasHanded (s : State) (r : Role) (i : Fin 32) : Bool :=
  !inputs32.any (fun j => decide (j < i) && decide ((s.inputEntry j).role = r))

/-- Step 1 of R133: the old role's receiver is handed an inactive state, and then the input the old
role passed over (log entry 15). -/
def leaveRole (old : InputEntry) (i : Fin 32) (s : State) : State :=
  if old.role = (s.inputEntry i).role then s
  else if old.role.isSingle then
    if wasHanded s old.role i then
      let s := handRole old.role false s
      match handedInput s old.role with
      | none => s
      | some j => handRole old.role (s.input j).active s
    else s
  else handRole old.role false s

/-- Step 2 of R133: the latch is cleared, and the active state formed from the debounced state. -/
def reformInput (i : Fin 32) (s : State) : State :=
  s.setInput i
    { s.input i with latch := false, active := activeState (s.inputEntry i).sense (s.input i).debounced false }

/-- The four steps of R133 at a change of role, role index or sense, in their order. During step 1 the
input counts for no role: it has left the old one, and its state for the new one is formed in step 2. -/
def roleWritten (old : InputEntry) (i : Fin 32) (s : State) : State :=
  let was := (s.input i).active
  let s := reformInput i (leaveRole old i (s.setInput i { s.input i with active := false }))
  let s := if isHanded s i then handRole (s.inputEntry i).role (s.input i).active s else s
  if (s.input i).active = was then s else recordInput i (s.input i).active s

/-- An INPUT write has replaced the entry `old` (R133, R130): the steps of a changed role or sense,
then a debounce that the new debounce time has completed (log entry 16). -/
def inputWritten (old : InputEntry) (i : Fin 32) (s : State) : State :=
  let new := s.inputEntry i
  let s := if old.role = new.role ∧ old.sense = new.sense then s else roleWritten old i s
  if old.debounce ≠ new.debounce ∧ debounceDue s i then takeDebounced i s else s

/-! ### INPS (R135) -/

/-- A set of 32 members. -/
def inputSet (f : Fin 32 → Bool) : List Byte := leBytes 4 (packBits (inputs32.map f))

def serveInps (_ : List Byte) (s : State) : Answer :=
  .give (inputSet (fun i => (s.input i).raw) ++ inputSet (fun i => (s.input i).debounced) ++
    inputSet (fun i => (s.input i).active)) s

def execInps (tag : Byte) (payload : List Byte) (s : State) : Host.Outcome State Fault Refusal :=
  .next (takeRequest .inps serveInps tag payload s)

/-! ### The completion of the load (R137) -/

/-- One input taken at the completion: debounced from the raw state, latch and active state formed. -/
def takeInput (i : Fin 32) (s : State) : State :=
  let x := s.input i
  let e := s.inputEntry i
  let latch := e.sense.isEdge && x.raw == e.sense.operated
  s.setInput i { x with debounced := x.raw, differs := none, latch := latch, active := activeState e.sense x.raw latch }

/-- The INPUT record of an input found active. -/
def recordActive (i : Fin 32) (s : State) : State := if (s.input i).active then recordInput i true s else s

/-- Every input taken, then a record for each one active, in rising index, which is the model's choice of order (log
entry 19). -/
def takeInputs (s : State) : State := forEach inputs32 recordActive (forEach inputs32 takeInput s)

/-- A door's contact taken as its starting value, without a record (R137, R153). -/
def startContact (d : Fin 16) (s : State) : State := s.setDoor d { s.door d with contact := handedState s (.door d) }

/-- The FLOW, FAN, GATE, DOOR and KEY inputs handed to their receivers as starting values (R137, R195). -/
def handInputs (s : State) : State :=
  let s := handFlow (handedState s .flow) s
  let s := forEach trunks4 (fun t s => handGate t (handedState s (.gate t)) (handFan t (handedState s (.fan t)) s)) s
  let s := forEach all16 startContact s
  handKey (handedState s .key) s

end Sys2Proof.Machine
end

