-- ==== Sys2Proof/Machine/ZoneRequests.lean ====
section
/-! DEFINITION. Requests to the zone table and what it does at a ZONE write (R120, R124 to R128). -/

namespace Sys2Proof.Machine

/-- The zones a "one or all" byte names: every enabled zone for 255, one enabled zone otherwise; `none` is RANGE. -/
def zonesNamed (s : State) (b : Byte) : Option (List (Fin 16)) :=
  if b = 255 then some (all16.filter (fun z => (s.zoneEntry z).enabled))
  else
    match readIndex 16 b with
    | none => none
    | some z => if (s.zoneEntry z).enabled then some [z] else none

/-! ### ZACK (R125) -/

/-- Input `i` is an edge-sensed call point of zone `z` whose latch is set while it stands at its quiet level. -/
def clearableLatch (s : State) (z : Fin 16) (i : Fin 32) : Bool :=
  decide ((s.inputEntry i).role = .call z) && (s.inputEntry i).sense.isEdge && (s.input i).latch &&
    ((s.input i).debounced != (s.inputEntry i).sense.operated)

/-- The edge latch of a call point is cleared: it becomes inactive, with its INPUT record (R125 step 2). -/
def clearLatch (i : Fin 32) (s : State) : State :=
  append (.input i false) (s.setInput i { s.input i with latch := false, active := false })

/-- Every latch of zone `z` that may be cleared (R125 step 2), in rising input index, which is the model's choice
of order (log entry 30). -/
def clearLatches (z : Fin 16) (s : State) : State := forEach (inputs32.filter (clearableLatch s z)) clearLatch s

/-- The zone after its latched level has become its current level (R125 step 4, R127). -/
def Zone.acknowledge (x : Zone) : Zone :=
  if x.current = .normal then { x with latched := .normal, ack := true, silenced := false, hush := .normal }
  else if x.silenced && decide (x.current.rank < x.hush.rank) then
    { x with latched := x.current, ack := true, hush := x.current }
  else { x with latched := x.current, ack := true }

/-- R125 step 4: the latch, its record when it changed, and its readers. -/
def lowerLatch (z : Fin 16) (s : State) : State :=
  let old := s.zone z
  let s := s.setZone z old.acknowledge
  if old.latched = (s.zone z).latched then
    if old.silenced = (s.zone z).silenced then s else sirensOfZone z s
  else handLatched z (append (zoneBody s z) s)

/-- A ZACK of zone `z`: the four steps of R125. -/
def ackZone (z : Fin 16) (s : State) : State :=
  lowerLatch z (causeChanged z (clearLatches z (causeChanged z (clearSurvivors z s))))

def serveZack (payload : List Byte) (s : State) : Answer :=
  match payload with
  | [b] =>
    match zonesNamed s b with
    | none => .reject .range s
    | some zs => .ok (forEach zs ackZone s)
  | _ => .reject .range s

def execZack (tag : Byte) (payload : List Byte) (s : State) : Host.Outcome State Fault Refusal :=
  .next (takeRequest .zack serveZack tag payload s)

/-! ### HUSH (R126) and SOUND (R127) -/

/-- A HUSH of a zone: silenced at its latched level. -/
def hushZone (z : Fin 16) (s : State) : State :=
  sirensOfZone z (s.setZone z { s.zone z with silenced := true, hush := (s.zone z).latched })

def aboveNormal (s : State) (z : Fin 16) : Bool := (s.zone z).latched.present

/-- A HUSH of all zones acts zone by zone in rising index, and the sirens of a zone follow before the next one: the
model's choice of order (log entry 30). -/
def serveHush (payload : List Byte) (s : State) : Answer :=
  match payload with
  | [b] =>
    match zonesNamed s b with
    | none => .reject .range s
    | some zs =>
      if b ≠ 255 ∧ !zs.all (aboveNormal s) then .reject .refused s
      else .ok (forEach (zs.filter (aboveNormal s)) hushZone s)
  | _ => .reject .range s

def execHush (tag : Byte) (payload : List Byte) (s : State) : Host.Outcome State Fault Refusal :=
  .next (takeRequest .hush serveHush tag payload s)

/-- A SOUND of a zone: a set silenced flag clears, and the hush level becomes NORMAL. -/
def soundZone (z : Fin 16) (s : State) : State :=
  if (s.zone z).silenced then sirensOfZone z (s.setZone z { s.zone z with silenced := false, hush := .normal }) else s

/-- A SOUND of all zones acts zone by zone in rising index, as HUSH does (log entry 30). -/
def serveSound (payload : List Byte) (s : State) : Answer :=
  match payload with
  | [b] =>
    match zonesNamed s b with
    | none => .reject .range s
    | some zs => .ok (forEach zs soundZone s)
  | _ => .reject .range s

def execSound (tag : Byte) (payload : List Byte) (s : State) : Host.Outcome State Fault Refusal :=
  .next (takeRequest .sound serveSound tag payload s)

/-! ### ZSET (R128) -/

/-- The MANUAL cause of a zone takes level `l`. -/
def setManual (z : Fin 16) (l : Level) (s : State) : State :=
  causeChanged z (s.setZone z { s.zone z with causes := { (s.zone z).causes with manual := l } })

def serveZset (payload : List Byte) (s : State) : Answer :=
  match payload with
  | [b, lb] =>
    match readIndex 16 b, readLevel lb with
    | some z, some l => if (s.zoneEntry z).enabled then .ok (setManual z l s) else .reject .range s
    | _, _ => .reject .range s
  | _ => .reject .range s

def execZset (tag : Byte) (payload : List Byte) (s : State) : Host.Outcome State Fault Refusal :=
  .next (takeRequest .zset serveZset tag payload s)

/-! ### ZONE writes (R120) -/

/-- A zone disabled: levels and flags fall, the causes are kept, a latched level above NORMAL leaves its record (R120).
The ZONE_LEVEL record stands before what the doors and then the sirens record, and the trunks come last: the model's
choice of order (log entry 32). -/
def disableZone (z : Fin 16) (s : State) : State :=
  let old := s.zone z
  let s := s.setZone z { old with current := .normal, latched := .normal, ack := false, silenced := false, hush := .normal }
  settleAll (if old.latched.present then handLatched z (append (zoneBody s z) s) else sirensOfZone z s)

/-- A ZONE write has replaced the entry `old` (R120). -/
def zoneWritten (old : ZoneEntry) (z : Fin 16) (s : State) : State :=
  if !old.enabled && (s.zoneEntry z).enabled then causeChanged z s
  else if old.enabled && !(s.zoneEntry z).enabled then disableZone z s
  else s

end Sys2Proof.Machine
end

