-- ==== Sys2Proof/Machine/Store.lean ====
section
/-! DEFINITION. The configuration store: CFGIN, TREAD, the TWRITEs and the nonvolatile store
(chapter 11). -/

namespace Sys2Proof.Machine

/-! ### CFGIN (R191) -/

/-- The four conditions of an accepted CFGIN. -/
def mayConfigure (s : State) : Bool :=
  s.cfs.key && all16.all (fun z => decide ((s.zone z).latched = .normal)) && s.trc.tracks.isEmpty && !anyValveSpraying s

/-- An accepted CFGIN: CONFIGURE, and every enabled trunk halted for service (R113). -/
def enterConfigure (s : State) : State := haltForService { s with cfs := { s.cfs with mode := .configure } }

def serveCfgin (_ : List Byte) (s : State) : Answer :=
  if mayConfigure s then .ok (enterConfigure s) else .reject .refused s

def execCfgin (tag : Byte) (payload : List Byte) (s : State) : Host.Outcome State Fault Refusal :=
  .next (takeRequest .cfgin serveCfgin tag payload s)

/-! ### TREAD (R190) -/

/-- The bytes of entry `index` of table `table`, where both are in range (R179). -/
def entryBytes (s : State) (table : Nat) (index : Byte) : Option (List Byte) :=
  match table with
  | 0 => (readIndex 4 index).map (fun t => (s.trunkEntry t).encode)
  | 1 => (readIndex 16 index).map (fun b => (s.branchEntry b).encode)
  | 2 => (readIndex 16 index).map (fun i => (s.stationEntry i).encode)
  | 3 => (readIndex 12 index).map (fun v => (s.valveEntry v).encode)
  | 4 => (readIndex 1 index).map (fun _ => s.supplyEntry.encode)
  | 5 => (readIndex 24 index).map (fun k => (s.cfs.tables.trip[k]).encode)
  | 6 => (readIndex 16 index).map (fun z => (s.zoneEntry z).encode)
  | 7 => (readIndex 32 index).map (fun i => (s.inputEntry i).encode)
  | 8 => (readIndex 16 index).map (fun d => (s.doorEntry d).encode)
  | 9 => (readIndex 8 index).map (fun i => (s.sirenEntry i).encode)
  | 10 => (readIndex 8 index).map (fun p => (s.patternEntry p).encode)
  | 11 => (readIndex 1 index).map (fun _ => s.globalEntry.encode)
  | _ => none

def serveTread (payload : List Byte) (s : State) : Answer :=
  match payload with
  | [table, index] =>
    match entryBytes s table.toNat index with
    | none => .reject .range s
    | some entry => .give ([table, index] ++ entry) s
  | _ => .reject .range s

def execTread (tag : Byte) (payload : List Byte) (s : State) : Host.Outcome State Fault Refusal :=
  .next (takeRequest .tread serveTread tag payload s)

/-! ### TWRITE (R191) -/

/-- The store state is RUNNING. -/
def storeRunning (s : State) : Bool :=
  match s.cfs.storeState with
  | .running _ => true
  | _ => false

/-- A write answered BUSY: a STORE runs, or the table is one of the topology and a track is active or
a valve is not IDLE (R191 steps 2 and 3). -/
def writeBusy (topology : Bool) (s : State) : Bool :=
  storeRunning s || (topology && (!s.trc.tracks.isEmpty || anyValveBusy s))

/-- A TWRITE to a table of `n` entries read by `decode`, `apply` being what a taken write does: the
checks of R191 in their order. The payload is table id, index and entry. -/
def serveWrite {E : Type} (n : Nat) (topology : Bool) (decode : List Byte → Option E) (apply : Fin n → E → State → State)
    (payload : List Byte) (s : State) : Answer :=
  match payload with
  | _ :: index :: entry =>
    match readIndex n index with
    | none => .reject .range s
    | some i =>
      if writeBusy topology s then .reject .busy s
      else
        match decode entry with
        | none => .reject .range s
        | some e => .ok (apply i e s)
  | _ => .reject .range s

/-- A TRUNK entry replaced: AFM, TKC, the trunk's stations, and every zone's causes act (R5, R117, R30). The
rules give the blocks no order within the write; the model takes AFM first, then TKC with the doors it frees,
then the stations, then the zones, each group in rising index (log entry 23). -/
def writeTrunk (t : Fin 4) (e : TrunkEntry) (s : State) : State :=
  let old := s.trunkEntry t
  let s := s.setTables { s.cfs.tables with trunk := s.cfs.tables.trunk.set t e }
  settleAll (refreshZones (reselectTrunk t (trunkWritten old t (airWritten old t s))))

/-- A BRANCH entry replaced: machine stops, causes and targets (R6, R30). -/
def writeBranch (b : Fin 16) (e : BranchEntry) (s : State) : State :=
  settleAll (refreshZones (driveStops (s.setTables { s.cfs.tables with branch := s.cfs.tables.branch.set b e })))

/-- A VALVE entry replaced; it acts from the next request or test (R71). -/
def writeValve (v : Fin 12) (e : ValveEntry) (s : State) : State :=
  s.setTables { s.cfs.tables with valve := s.cfs.tables.valve.set v e }

/-- The SUPPLY entry replaced; it acts from the next arbitration and timer start (R72). -/
def writeSupply (_ : Fin 1) (e : SupplyEntry) (s : State) : State := s.setTables { s.cfs.tables with supply := e }

/-- A TRIP entry replaced: the targets are re-evaluated (R101). -/
def writeTrip (k : Fin 24) (e : TripEntry) (s : State) : State :=
  settleAll (s.setTables { s.cfs.tables with trip := s.cfs.tables.trip.set k e })

/-- A ZONE entry replaced (R120). -/
def writeZone (z : Fin 16) (e : ZoneEntry) (s : State) : State :=
  zoneWritten (s.zoneEntry z) z (s.setTables { s.cfs.tables with zone := s.cfs.tables.zone.set z e })

/-- An INPUT entry replaced (R133). -/
def writeInput (i : Fin 32) (e : InputEntry) (s : State) : State :=
  inputWritten (s.inputEntry i) i (s.setTables { s.cfs.tables with input := s.cfs.tables.input.set i e })

/-- A DOOR entry replaced (R152). -/
def writeDoor (d : Fin 16) (e : DoorEntry) (s : State) : State :=
  doorWritten (s.doorEntry d) d (s.setTables { s.cfs.tables with door := s.cfs.tables.door.set d e })

/-- A SIREN entry replaced (R167). -/
def writeSiren (i : Fin 8) (e : SirenEntry) (s : State) : State :=
  sirenWritten (s.sirenEntry i) i (s.setTables { s.cfs.tables with siren := s.cfs.tables.siren.set i e })

/-- A PATTERN entry replaced (R167). -/
def writePattern (p : Fin 8) (e : PatternEntry) (s : State) : State :=
  patternWritten p (s.setTables { s.cfs.tables with pattern := s.cfs.tables.pattern.set p e })

/-- A changed hold time moves the expiry of a running hold timer, and expires it when it is not later than now (R185). -/
def HoldTimer.rewritten (now : Time) (hold : Nat) : HoldTimer → HoldTimer
  | .running began _ => if reached now (after began hold) then .expired else .running began (after began hold)
  | t => t

/-- The hold timer and ATTN after a GLOBAL write (R185). -/
def holdWritten (old : GlobalEntry) (s : State) : State :=
  evalAttn
    (if old.holdTime = s.globalEntry.holdTime then s
     else { s with rpq := { s.rpq with holdTimer := s.rpq.holdTimer.rewritten s.time s.globalEntry.holdTime } })

/-- The sampler counter brought down to the new N - 1 (R92). -/
def samplerWritten (s : State) : State :=
  { s with spa := { s.spa with samplerCount := min s.spa.samplerCount (s.globalEntry.samplerN - 1) } }

/-- The GLOBAL entry replaced, each reader acting on the changed fields (R190). -/
def writeGlobal (_ : Fin 1) (e : GlobalEntry) (s : State) : State :=
  let old := s.globalEntry
  let s := samplerWritten (holdWritten old (s.setTables { s.cfs.tables with global := e }))
  let s := if old.startGap = e.startGap then s else judgeStarts s
  if old.dutyInterval = e.dutyInterval then s else forEach all16 dutyRewritten s

def serveTwriteTrunk := serveWrite 4 true TrunkEntry.decode writeTrunk
def serveTwriteBranch := serveWrite 16 true BranchEntry.decode writeBranch
def serveTwriteStation := serveWrite 16 true StationEntry.decode writeStation
def serveTwriteValve := serveWrite 12 true ValveEntry.decode writeValve
def serveTwriteSupply := serveWrite 1 true SupplyEntry.decode writeSupply
def serveTwriteTrip := serveWrite 24 false TripEntry.decode writeTrip
def serveTwriteZone := serveWrite 16 false ZoneEntry.decode writeZone
def serveTwriteInput := serveWrite 32 false InputEntry.decode writeInput
def serveTwriteDoor := serveWrite 16 false DoorEntry.decode writeDoor
def serveTwriteSiren := serveWrite 8 false SirenEntry.decode writeSiren
def serveTwritePattern := serveWrite 8 false PatternEntry.decode writePattern
def serveTwriteGlobal := serveWrite 1 false GlobalEntry.decode writeGlobal

/-- A TWRITE whose payload names its table: a table id above 11 is RANGE (R191 step 1). -/
def serveTwrite (payload : List Byte) (s : State) : Answer :=
  match payload with
  | [] => .reject .range s
  | table :: _ =>
    match table.toNat with
    | 0 => serveTwriteTrunk payload s
    | 1 => serveTwriteBranch payload s
    | 2 => serveTwriteStation payload s
    | 3 => serveTwriteValve payload s
    | 4 => serveTwriteSupply payload s
    | 5 => serveTwriteTrip payload s
    | 6 => serveTwriteZone payload s
    | 7 => serveTwriteInput payload s
    | 8 => serveTwriteDoor payload s
    | 9 => serveTwriteSiren payload s
    | 10 => serveTwritePattern payload s
    | 11 => serveTwriteGlobal payload s
    | _ => .reject .range s

def execTwriteTrunk (tag index : Byte) (entry : List Byte) (s : State) : Host.Outcome State Fault Refusal :=
  .next (takeRequest .twrite serveTwriteTrunk tag (0 :: index :: entry) s)

def execTwriteBranch (tag index : Byte) (entry : List Byte) (s : State) : Host.Outcome State Fault Refusal :=
  .next (takeRequest .twrite serveTwriteBranch tag (1 :: index :: entry) s)

def execTwriteStation (tag index : Byte) (entry : List Byte) (s : State) : Host.Outcome State Fault Refusal :=
  .next (takeRequest .twrite serveTwriteStation tag (2 :: index :: entry) s)

def execTwriteValve (tag index : Byte) (entry : List Byte) (s : State) : Host.Outcome State Fault Refusal :=
  .next (takeRequest .twrite serveTwriteValve tag (3 :: index :: entry) s)

def execTwriteSupply (tag index : Byte) (entry : List Byte) (s : State) : Host.Outcome State Fault Refusal :=
  .next (takeRequest .twrite serveTwriteSupply tag (4 :: index :: entry) s)

def execTwriteTrip (tag index : Byte) (entry : List Byte) (s : State) : Host.Outcome State Fault Refusal :=
  .next (takeRequest .twrite serveTwriteTrip tag (5 :: index :: entry) s)

def execTwriteZone (tag index : Byte) (entry : List Byte) (s : State) : Host.Outcome State Fault Refusal :=
  .next (takeRequest .twrite serveTwriteZone tag (6 :: index :: entry) s)

def execTwriteInput (tag index : Byte) (entry : List Byte) (s : State) : Host.Outcome State Fault Refusal :=
  .next (takeRequest .twrite serveTwriteInput tag (7 :: index :: entry) s)

def execTwriteDoor (tag index : Byte) (entry : List Byte) (s : State) : Host.Outcome State Fault Refusal :=
  .next (takeRequest .twrite serveTwriteDoor tag (8 :: index :: entry) s)

def execTwriteSiren (tag index : Byte) (entry : List Byte) (s : State) : Host.Outcome State Fault Refusal :=
  .next (takeRequest .twrite serveTwriteSiren tag (9 :: index :: entry) s)

def execTwritePattern (tag index : Byte) (entry : List Byte) (s : State) : Host.Outcome State Fault Refusal :=
  .next (takeRequest .twrite serveTwritePattern tag (10 :: index :: entry) s)

def execTwriteGlobal (tag index : Byte) (entry : List Byte) (s : State) : Host.Outcome State Fault Refusal :=
  .next (takeRequest .twrite serveTwriteGlobal tag (11 :: index :: entry) s)

/-! ### STORE (R194) and RSTRT (R195) -/

/-- An accepted STORE: the stored CRC is made invalid first, then the tables as they stand are written. -/
def beginStore (s : State) : State :=
  { s with cfs := { s.cfs with storeState := .running s.time, copy := s.cfs.tables, copyGood := false } }

def serveStore (_ : List Byte) (s : State) : Answer :=
  if s.cfs.storeLock then .reject .refused s else if storeRunning s then .reject .busy s else .ok (beginStore s)

def execStore (tag : Byte) (payload : List Byte) (s : State) : Host.Outcome State Fault Refusal :=
  .next (takeRequest .store serveStore tag payload s)

/-- A STORE_INVALID fault standing from start-up ends with its clear record. -/
def endStoreInvalid (s : State) : State :=
  if s.cfs.storeInvalid then append (.fault .storeInvalid false) { s with cfs := { s.cfs with storeInvalid := false } } else s

/-- The completion of a running store, `matched` being the read-back (R194). -/
def completeStore (matched : Bool) (s : State) : State :=
  if matched then
    append (.storeDone true) (endStoreInvalid { s with cfs := { s.cfs with storeState := .pass, copyGood := true } })
  else
    append (.storeDone false) { s with cfs := { s.cfs with storeState := .fail, copyGood := false, storeLock := true } }

def execStoreCompletion (matched : Bool) (s : State) : Host.Outcome State Fault Refusal :=
  .next (if storeRunning s then completeStore matched s else s)

def serveRstrt (_ : List Byte) (s : State) : Answer :=
  if storeRunning s then .reject .busy s else .ok { s with lnk := { s.lnk with restartPending := true } }

def execRstrt (tag : Byte) (payload : List Byte) (s : State) : Host.Outcome State Fault Refusal :=
  .next (takeRequest .rstrt serveRstrt tag payload s)

end Sys2Proof.Machine
end

