-- ==== Sys2Proof/Machine/Startup.lean ====
section
/-! DEFINITION. The two resets and the completion of the load (R195 and the reset rule of each chapter). -/

namespace Sys2Proof.Machine

/-- The tables the start-up precedence loads (R195): the copy when the strap is not asserted and the
copy is good, the defaults otherwise. -/
def loadedTables (strap : Bool) (s : State) : Tables := if strap || !s.cfs.copyGood then Tables.default else s.cfs.copy

/-- The store is bad and the strap is not asserted: STORE_INVALID is set at the completion (R195). -/
def loadInvalid (strap : Bool) (s : State) : Bool := !strap && !s.cfs.copyGood

/-- The configuration store after a reset, its load begun at `now` (R194, R195). -/
def resetCfs (strap : Bool) (now : Time) (s : State) : Cfs :=
  { mode := .start, tables := loadedTables strap s, copy := s.cfs.copy, copyGood := s.cfs.copyGood, storeState := .none
    storeLock := false, key := false, configInvalid := false, storeInvalid := false, strap := strap
    loadInvalid := loadInvalid strap s, resetAt := now }

/-- A trunk after a reset: the gate ordered to divert when gate present is 1, enabled or not (R118). -/
def resetTrunk (e : TrunkEntry) : Trunk := { Trunk.reset with gateOut := e.gatePresent }

/-- The trunk controller after a reset, on the tables being loaded (R118). -/
def resetTkc (tables : Tables) : Tkc := { Tkc.reset with trunks := Vector.ofFn (fun t => resetTrunk tables.trunk[t]) }

/-- The front end after a reset (R38); what a loop itself is does not change (log entry 6). -/
def resetDfe (s : State) : Dfe :=
  { Dfe.reset with stations := Vector.ofFn (fun i => { Station.reset with loop := (s.dfe.stations[i]).loop }) }

/-- The field inputs after a reset (R137); the raw states are read on. -/
def resetFiu (s : State) : Vector Input 32 := Vector.ofFn (fun i => { Input.reset with raw := (s.fiu[i]).raw })

/-- The sirens after a reset (R168); what a load itself is does not change. -/
def resetSrs (s : State) : Srs :=
  { Srs.reset with sirens := Vector.ofFn (fun i => { Siren.reset with load := (s.srs.sirens[i]).load }) }

/-- Every block in its reset state, the counter bank and the time as given, and the load begun. -/
def resetPart (strap : Bool) (now : Time) (bank : Bank) (s : State) : State :=
  { pending := s.pending, time := now, draws := s.draws, afm := State.reset.afm, dfe := resetDfe s, trc := Trc.reset
    spa := Spa.reset, tkc := resetTkc (loadedTables strap s), znt := State.reset.znt, fiu := resetFiu s, drc := State.reset.drc
    srs := resetSrs s, rpq := { Rpq.reset with bank := bank }, lnk := Lnk.reset, cfs := resetCfs strap now s }

/-- POWER-ON: time 0, counters 0 (R1, R189, R195). A copy cut while a STORE ran is not good already (R194). -/
def execPowerOn (strap : Bool) (s : State) : Host.Outcome State Fault Refusal := .next (resetPart strap 0 Bank.zero s)

/-- RESTART: time and counters kept (R1, R181, R189, R195). -/
def execRestart (strap : Bool) (s : State) : Host.Outcome State Fault Refusal :=
  .next (if restartDue s then resetPart strap s.time s.rpq.bank s else s)

/-! ### The completion of the load (R195) -/

/-- Every trunk takes its starting state: supervision and slot timer begin, or it is disabled (R99, R109, R117, R118). -/
def startTrunk (t : Fin 4) (s : State) : State :=
  if (s.trunkEntry t).enabled then beginTrunk t .start s
  else
    s.setTrunk t
      { Trunk.reset with prot := .halt .none, fanIn := (s.trunk t).fanIn, gateIn := (s.trunk t).gateIn }

/-- A door's starting state (R153). -/
def startState (s : State) (d : Fin 16) : DoorState := if (s.doorEntry d).enabled then heldState s d else .disabled

/-- Every door takes its starting state, without a record. -/
def startDoor (d : Fin 16) (s : State) : State :=
  s.setDoor d { s.door d with st := startState s d, holder := (startState s d).holderOn }

/-- The STORE_INVALID fault of a load that took the defaults over a bad copy (R195). -/
def startStoreFault (s : State) : State :=
  if s.cfs.loadInvalid then append (.fault .storeInvalid true) { s with cfs := { s.cfs with storeInvalid := true } } else s

/-- The completion of the load, in the order of R195: mode, inputs and their hand-off, trunks, doors,
siren supervision, the store's fault, the release of scanning, and then the causes. Where R195 gives no order the
model chooses one (log entry 19): siren faults, STORE_INVALID, stations; the sirens and the stations in rising index; and
all the causes of a zone formed together, so that the one ZONE_LEVEL record of a zone with a call point and a heat
detector found operated carries both kinds. -/
def completeLoad (s : State) : State :=
  let s := { s with cfs := { s.cfs with mode := if s.cfs.strap then .configure else .armed } }
  let s := handInputs (takeInputs s)
  let s := forEach all16 startDoor (forEach trunks4 startTrunk s)
  let s := startStoreFault (forEach sirens8 superviseLoad s)
  let s := if s.cfs.mode = .armed then releaseScanning s else s
  settleAll (refreshZones s)

def execLoadCompletion (s : State) : Host.Outcome State Fault Refusal :=
  .next (if s.cfs.mode = .start then completeLoad s else s)

end Sys2Proof.Machine
end

