-- ==== Sys2Proof/Machine/Receiver.lean ====
section
/-! DEFINITION. The frame receiver, byte by byte (R172, R174, R175): a frame that completes here
reaches the same owners as a request command. -/

namespace Sys2Proof.Machine

/-- The owner of each kind (R179). -/
def ownerOf : ReqKind → List Byte → State → Answer
  | .id => serveId
  | .stat => serveStat
  | .fetch => serveFetch
  | .cntr => serveCntr
  | .smpl => serveSmpl
  | .trks => serveTrks
  | .inps => serveInps
  | .view => serveView
  | .zack => serveZack
  | .hush => serveHush
  | .sound => serveSound
  | .zset => serveZset
  | .trun => serveTrun
  | .thalt => serveThalt
  | .dhold => serveDhold
  | .dshut => serveDshut
  | .htest => serveHtest
  | .vtest => serveVtest
  | .stest => serveStest
  | .cfgin => serveCfgin
  | .cfgout => serveCfgout
  | .tread => serveTread
  | .twrite => serveTwrite
  | .store => serveStore
  | .rstrt => serveRstrt

/-- The bytes of a good frame from KIND on, as a request (R175). -/
def serveBody (body : List Byte) (s : State) : State :=
  match body with
  | kind :: tag :: payload =>
    match readKind kind with
    | none => sendReply kind tag .unknown [] s
    | some k => serveRequest k (ownerOf k) tag payload s
  | _ => s

/-- A frame is complete (R174): `body` from KIND to the last payload byte, then its CRC byte. -/
def completeFrame (body : List Byte) (crc : Byte) (s : State) : State :=
  if s.lnk.tx.isSome then discardFrame s
  else if restartDue s then s
  else if crc = frameCrc body then serveBody body s
  else s

/-- The receiver in BODY, with one byte more. -/
def storeByte (len : Nat) (bytes : List Byte) (b : Byte) (s : State) : State :=
  if bytes.length < len then { s with lnk := { s.lnk with rx := .body len (bytes ++ [b]) s.time } }
  else completeFrame bytes b (toHunt s)

/-- The table of R172. -/
def receiveByte (b : Byte) (s : State) : State :=
  match s.lnk.rx with
  | .hunt => if b = 0xA5 then { s with lnk := { s.lnk with rx := .length s.time } } else s
  | .length _ => if badLength b then toHunt s else { s with lnk := { s.lnk with rx := .body b.toNat [] s.time } }
  | .body len bytes _ => storeByte len bytes b s

def execCharacterReceived (b : Byte) (s : State) : Host.Outcome State Fault Refusal := .next (receiveByte b s)

end Sys2Proof.Machine
end

