-- ==== Sys2Proof/Machine/Dispatch.lean ====
section
/-! DEFINITION. One arm per command, in the order of the opcode table. -/

namespace Sys2Proof.Machine

def exec (i : Instr) (s : State) : Host.Outcome State Fault Refusal :=
  match i with
  | .powerOn strap => Sys2Proof.Machine.execPowerOn strap s
  | .restart strap => Sys2Proof.Machine.execRestart strap s
  | .loadCompletion => Sys2Proof.Machine.execLoadCompletion s
  | .lineBreak => Sys2Proof.Machine.execLineBreak s
  | .framingError => Sys2Proof.Machine.execFramingError s
  | .badLengthByte b => Sys2Proof.Machine.execBadLengthByte b s
  | .gapDeadline => Sys2Proof.Machine.execGapDeadline s
  | .frameDiscard body crc => Sys2Proof.Machine.execFrameDiscard body crc s
  | .unknownRequest kind tag payload => Sys2Proof.Machine.execUnknownRequest kind tag payload s
  | .replySent => Sys2Proof.Machine.execReplySent s
  | .idRequest tag payload => Sys2Proof.Machine.execIdRequest tag payload s
  | .stat tag payload => Sys2Proof.Machine.execStat tag payload s
  | .fetch tag payload => Sys2Proof.Machine.execFetch tag payload s
  | .cntr tag payload => Sys2Proof.Machine.execCntr tag payload s
  | .smpl tag payload => Sys2Proof.Machine.execSmpl tag payload s
  | .trks tag payload => Sys2Proof.Machine.execTrks tag payload s
  | .inps tag payload => Sys2Proof.Machine.execInps tag payload s
  | .viewMask tag payload => Sys2Proof.Machine.execViewMask tag payload s
  | .viewNext tag => Sys2Proof.Machine.execViewNext tag s
  | .zack tag payload => Sys2Proof.Machine.execZack tag payload s
  | .hush tag payload => Sys2Proof.Machine.execHush tag payload s
  | .sound tag payload => Sys2Proof.Machine.execSound tag payload s
  | .zset tag payload => Sys2Proof.Machine.execZset tag payload s
  | .trun tag payload => Sys2Proof.Machine.execTrun tag payload s
  | .thalt tag payload => Sys2Proof.Machine.execThalt tag payload s
  | .dhold tag payload => Sys2Proof.Machine.execDhold tag payload s
  | .dshut tag payload => Sys2Proof.Machine.execDshut tag payload s
  | .htest tag payload => Sys2Proof.Machine.execHtest tag payload s
  | .vtest tag payload => Sys2Proof.Machine.execVtest tag payload s
  | .stest tag payload => Sys2Proof.Machine.execStest tag payload s
  | .cfgin tag payload => Sys2Proof.Machine.execCfgin tag payload s
  | .cfgout tag payload => Sys2Proof.Machine.execCfgout tag payload s
  | .tread tag payload => Sys2Proof.Machine.execTread tag payload s
  | .twriteTrunk tag index entry => Sys2Proof.Machine.execTwriteTrunk tag index entry s
  | .twriteBranch tag index entry => Sys2Proof.Machine.execTwriteBranch tag index entry s
  | .twriteStation tag index entry => Sys2Proof.Machine.execTwriteStation tag index entry s
  | .twriteValve tag index entry => Sys2Proof.Machine.execTwriteValve tag index entry s
  | .twriteSupply tag index entry => Sys2Proof.Machine.execTwriteSupply tag index entry s
  | .twriteTrip tag index entry => Sys2Proof.Machine.execTwriteTrip tag index entry s
  | .twriteZone tag index entry => Sys2Proof.Machine.execTwriteZone tag index entry s
  | .twriteInput tag index entry => Sys2Proof.Machine.execTwriteInput tag index entry s
  | .twriteDoor tag index entry => Sys2Proof.Machine.execTwriteDoor tag index entry s
  | .twriteSiren tag index entry => Sys2Proof.Machine.execTwriteSiren tag index entry s
  | .twritePattern tag index entry => Sys2Proof.Machine.execTwritePattern tag index entry s
  | .twriteGlobal tag index entry => Sys2Proof.Machine.execTwriteGlobal tag index entry s
  | .store tag payload => Sys2Proof.Machine.execStore tag payload s
  | .storeCompletion matched => Sys2Proof.Machine.execStoreCompletion matched s
  | .rstrt tag payload => Sys2Proof.Machine.execRstrt tag payload s
  | .goodReading trunk value => Sys2Proof.Machine.execGoodReading trunk value s
  | .outOfRangeReading trunk => Sys2Proof.Machine.execOutOfRangeReading trunk s
  | .holdExpiry trunk => Sys2Proof.Machine.execHoldExpiry trunk s
  | .detectorSample station value => Sys2Proof.Machine.execDetectorSample station value s
  | .dutyWindowOpen station => Sys2Proof.Machine.execDutyWindowOpen station s
  | .dutyWindowEnd station => Sys2Proof.Machine.execDutyWindowEnd station s
  | .standingTimeReached station => Sys2Proof.Machine.execStandingTimeReached station s
  | .loopFault station cond => Sys2Proof.Machine.execLoopFault station cond s
  | .loopRecovery station => Sys2Proof.Machine.execLoopRecovery station s
  | .testWindowExpiry station => Sys2Proof.Machine.execTestWindowExpiry station s
  | .windowPass track => Sys2Proof.Machine.execWindowPass track s
  | .openTimeReached valve => Sys2Proof.Machine.execOpenTimeReached valve s
  | .sprayMissed valve => Sys2Proof.Machine.execSprayMissed valve s
  | .valveClose valve => Sys2Proof.Machine.execValveClose valve s
  | .flowProveExpiry => Sys2Proof.Machine.execFlowProveExpiry s
  | .unexpectedFlowExpiry => Sys2Proof.Machine.execUnexpectedFlowExpiry s
  | .testSprayEnd valve => Sys2Proof.Machine.execTestSprayEnd valve s
  | .slotAdvance trunk => Sys2Proof.Machine.execSlotAdvance trunk s
  | .gateTimerExpiry trunk => Sys2Proof.Machine.execGateTimerExpiry trunk s
  | .divertHoldExpiry trunk => Sys2Proof.Machine.execDivertHoldExpiry trunk s
  | .clearDelayExpiry trunk => Sys2Proof.Machine.execClearDelayExpiry trunk s
  | .fanStopTimeout trunk => Sys2Proof.Machine.execFanStopTimeout trunk s
  | .startTimeout trunk => Sys2Proof.Machine.execStartTimeout trunk s
  | .rawInputChange input high => Sys2Proof.Machine.execRawInputChange input high s
  | .debounceExpiry input => Sys2Proof.Machine.execDebounceExpiry input s
  | .releaseDelayExpiry door => Sys2Proof.Machine.execReleaseDelayExpiry door s
  | .closeTimerExpiry door => Sys2Proof.Machine.execCloseTimerExpiry door s
  | .startSlotFree => Sys2Proof.Machine.execStartSlotFree s
  | .lastStartExpiry => Sys2Proof.Machine.execLastStartExpiry s
  | .stepEnd siren => Sys2Proof.Machine.execStepEnd siren s
  | .sirenTestEnd siren => Sys2Proof.Machine.execSirenTestEnd siren s
  | .loadFault siren cond => Sys2Proof.Machine.execLoadFault siren cond s
  | .loadRecovery siren => Sys2Proof.Machine.execLoadRecovery siren s
  | .holdTimerExpiry => Sys2Proof.Machine.execHoldTimerExpiry s
  | .characterReceived b => Sys2Proof.Machine.execCharacterReceived b s

end Sys2Proof.Machine
end

