-- ==== Sys2Proof/Machine/Ticks.lean ====
section
/-! DEFINITION. What happens by the clock alone: the timed events of the part that are due at the
present time, in one fixed order, and the tick of the time counter when none is (log entry 1). -/

namespace Sys2Proof.Machine

/-- The command `c` when it is due. -/
def dueIf (due : Bool) (c : Instr) : List Instr := if due then [c] else []

def dueTrunk (s : State) (t : Fin 4) : List Instr :=
  let x := s.trunk t
  dueIf (expired s.time (s.air t).holdExpiry) (.holdExpiry t) ++ dueIf (expired s.time x.nextAdvance) (.slotAdvance t)
    ++ dueIf (expired s.time x.gateTimer) (.gateTimerExpiry t) ++ dueIf (expired s.time x.divertHold) (.divertHoldExpiry t)
    ++ dueIf (expired s.time x.clearDelay) (.clearDelayExpiry t) ++ dueIf (expired s.time x.fanStop) (.fanStopTimeout t)
    ++ dueIf (expired s.time x.startTimer) (.startTimeout t)

def dueStation (s : State) (i : Fin 16) : List Instr :=
  (match (s.station i).scan with
    | .duty opened true _ => dueIf (reached s.time (after opened 20)) (.dutyWindowEnd i)
    | .duty _ false next => dueIf (reached s.time next) (.dutyWindowOpen i)
    | .test _ expiry => dueIf (reached s.time expiry) (.testWindowExpiry i)
    | .off | .cont | .fault _ => []) ++ dueIf (standingDue s i) (.standingTimeReached i)

def dueTrack (s : State) (k : Track) : List Instr := dueIf (windowPassed s k) (.windowPass k.id)

def dueValve (s : State) (v : Fin 12) : List Instr :=
  match (s.valve v).st with
  | .idle => []
  | .scheduled sch => dueIf (reached s.time sch.openTime) (.openTimeReached v)
  | .waiting sch _ => dueIf (passed s.time sch.closeTime) (.sprayMissed v)
  | .spraying sch _ _ _ => dueIf (reached s.time sch.closeTime) (.valveClose v)
  | .test ends _ => dueIf (reached s.time ends) (.testSprayEnd v)

def dueDoor (s : State) (d : Fin 16) : List Instr :=
  match (s.door d).st with
  | .delayed _ e => dueIf (reached s.time e) (.releaseDelayExpiry d)
  | .released _ e => dueIf (reached s.time e) (.closeTimerExpiry d)
  | .held | .ready | .waitFan _ | .closed | .blocked | .disabled => []

def dueSiren (s : State) (i : Fin 8) : List Instr :=
  match (s.siren i).st with
  | .sounding _ _ _ e _ _ => dueIf (reached s.time e) (.stepEnd i)
  | .test _ _ _ e ends _ => dueIf (expired s.time e) (.stepEnd i) ++ dueIf (reached s.time ends) (.sirenTestEnd i)
  | .off | .startWait _ => []

/-- The last start time is to become absent (R159). -/
def lastStartDue (s : State) : Bool :=
  match s.srs.lastStart with
  | none => false
  | some l => reached s.time (after l 2000)

/-- The reply has certainly been sent: one millisecond beyond the whole milliseconds of its line time (R177). -/
def replyOver (s : State) : Bool :=
  match s.lnk.tx with
  | none => false
  | some r => reached s.time (after r.started (lineMs r.lineBytes + 1))

/-- The load has reached its bound of 100 ms (R195). -/
def loadOver (s : State) : Bool := decide (s.cfs.mode = .start) && reached s.time (after s.cfs.resetAt 100)

/-- A running STORE has reached its bound of 600 ms (R194). -/
def storeOver (s : State) : Bool :=
  match s.cfs.storeState with
  | .running accepted => reached s.time (after accepted 600)
  | .none | .pass | .fail => false

/-- Every timed event due at the present time, in the order in which the model takes them. -/
def dueEvents (s : State) : List Instr :=
  trunks4.flatMap (dueTrunk s) ++ all16.flatMap (dueStation s) ++ s.trc.tracks.flatMap (dueTrack s)
    ++ valves12.flatMap (dueValve s)
    ++ dueIf (expired s.time s.spa.proveExpiry) .flowProveExpiry
    ++ dueIf (expired s.time s.spa.unexpExpiry) .unexpectedFlowExpiry
    ++ inputs32.flatMap (fun i => dueIf (debounceDue s i) (.debounceExpiry i))
    ++ all16.flatMap (dueDoor s)
    ++ dueIf (startSlotOpen s && (firstQueued s).isSome) .startSlotFree
    ++ dueIf (lastStartDue s) .lastStartExpiry
    ++ sirens8.flatMap (dueSiren s)
    ++ dueIf (holdDue s) .holdTimerExpiry
    ++ dueIf (gapPassed s) .gapDeadline
    ++ dueIf (replyOver s) .replySent
    ++ dueIf (restartDue s) (.restart s.cfs.strap)
    ++ dueIf (loadOver s) .loadCompletion

/-- The time counter moves on by 1 ms (R1). -/
def tick (s : State) : State := { s with time := s.time + 1 }

/-- A store at its bound completes with a free read-back, drawn afresh (R194, log entry 3). -/
def completeFreely (s : State) : State :=
  completeStore (Config.storeReadBack s.draws) { s with draws := s.draws + 1 }

/-- The part with no command waiting: the first event due, or else a store at its bound, or else a tick. -/
def idle (s : State) : Host.Outcome State Fault Refusal :=
  match dueEvents s with
  | c :: _ => exec c s
  | [] => .next (if storeOver s then completeFreely s else tick s)

/-- One step: the command at the front of the queue runs on the state with the queue's rest; on an
empty queue the part runs by its clock. -/
def takeStep (s : State) : Host.Outcome State Fault Refusal :=
  match s.pending with
  | c :: rest => exec c { s with pending := rest }
  | [] => idle s

end Sys2Proof.Machine
end

