-- ==== Sys2Proof/Machine/Step.lean ====
section
/-! DEFINITION. The step of the part, and a command placed at the front of its queue. -/

namespace Sys2Proof.Machine

def step (s : State) : Host.Outcome State Fault Refusal := takeStep s

/-- The command a word spells put at the front of the queue; the table gives no row any bits, so no
word spells one (log entry 2). -/
def State.withFetchWord (s : State) (nbits w : Nat) : State :=
  match decodeTableWord nbits w with
  | some c => { s with pending := c :: s.pending }
  | none => s

end Sys2Proof.Machine
end

