-- ==== Sys2Proof/Safety.lean ====
section
/-! DEFINITION. The terms claims are stated in: when a request reaches its owner, what a reply and the
records of an event leave behind, and the invariants of the part. -/

namespace Sys2Proof.Machine

/-! ### Requests -/

/-- A request of kind `k` with this payload reaches its owner at `s` (R174, R175): the transmitter is
free, no RESTART is due (R181), the payload length is allowed and the part mode serves the kind. -/
def Reaches (k : ReqKind) (payload : List Byte) (s : State) : Prop :=
  s.lnk.tx = none ∧ s.lnk.restartPending = false ∧ k.lengthOk payload = true ∧ k.servedIn s.cfs.mode = true

/-- The reply that begins at `s` (R170, R177). -/
def replyAt (k : ReqKind) (tag : Byte) (r : Result) (payload : List Byte) (s : State) : Reply :=
  { kind := k.code ||| 0x80, tag := tag, result := r, payload := payload, started := s.time }

/-- The link at the reply: the receiver in HUNT, the reply being sent. -/
def replied (k : ReqKind) (tag : Byte) (r : Result) (payload : List Byte) (s : State) : Lnk :=
  { s.lnk with rx := .hunt, tx := some (replyAt k tag r payload s) }

/-- The state a request answered without effect leaves: the link alone has changed. -/
def answered (k : ReqKind) (tag : Byte) (r : Result) (payload : List Byte) (s : State) : State :=
  { s with lnk := replied k tag r payload s }

/-- The report queue, ATTN and counters after these records have been appended in order at `s`. -/
def recorded (bodies : List Body) (s : State) : Rpq := (bodies.foldl (fun s b => append b s) s).rpq

/-- The request command that carries this kind, tag and payload; a TWRITE to no table has no row. -/
def requestCommand (k : ReqKind) (tag : Byte) (payload : List Byte) : Option Instr :=
  match k with
  | .id => some (.idRequest tag payload)
  | .stat => some (.stat tag payload)
  | .fetch => some (.fetch tag payload)
  | .cntr => some (.cntr tag payload)
  | .smpl => some (.smpl tag payload)
  | .trks => some (.trks tag payload)
  | .inps => some (.inps tag payload)
  | .view => if payload.isEmpty then some (.viewNext tag) else some (.viewMask tag payload)
  | .zack => some (.zack tag payload)
  | .hush => some (.hush tag payload)
  | .sound => some (.sound tag payload)
  | .zset => some (.zset tag payload)
  | .trun => some (.trun tag payload)
  | .thalt => some (.thalt tag payload)
  | .dhold => some (.dhold tag payload)
  | .dshut => some (.dshut tag payload)
  | .htest => some (.htest tag payload)
  | .vtest => some (.vtest tag payload)
  | .stest => some (.stest tag payload)
  | .cfgin => some (.cfgin tag payload)
  | .cfgout => some (.cfgout tag payload)
  | .tread => some (.tread tag payload)
  | .store => some (.store tag payload)
  | .rstrt => some (.rstrt tag payload)
  | .twrite =>
    match payload with
    | table :: index :: entry =>
      match table.toNat with
      | 0 => some (.twriteTrunk tag index entry)
      | 1 => some (.twriteBranch tag index entry)
      | 2 => some (.twriteStation tag index entry)
      | 3 => some (.twriteValve tag index entry)
      | 4 => some (.twriteSupply tag index entry)
      | 5 => some (.twriteTrip tag index entry)
      | 6 => some (.twriteZone tag index entry)
      | 7 => some (.twriteInput tag index entry)
      | 8 => some (.twriteDoor tag index entry)
      | 9 => some (.twriteSiren tag index entry)
      | 10 => some (.twritePattern tag index entry)
      | 11 => some (.twriteGlobal tag index entry)
      | _ => none
    | _ => none

/-- The report queue of `t` is that of `s` after further records were appended to it (R182, R184, R185). -/
def AppendsTo (s t : State) : Prop :=
  ∃ l : List (Bool × Body), t.rpq = { (l.foldl (fun s b => appendMarked b.1 b.2 s) s).rpq with bank := t.rpq.bank }

/-- Commands taken one after another, each on the state the one before it left. -/
def execAll : List Instr → State → Host.Outcome State Fault Refusal
  | [], s => .next s
  | c :: rest, s =>
    match exec c s with
    | .next t => execAll rest t
    | .fault r => .fault r
    | .refused r => .refused r

/-! ### The frame check (R171), bit by bit -/

/-- The bits of a byte, most significant first. -/
def bitsOf (b : Byte) : List Bool :=
  [b.getLsbD 7, b.getLsbD 6, b.getLsbD 5, b.getLsbD 4, b.getLsbD 3, b.getLsbD 2, b.getLsbD 1, b.getLsbD 0]

/-- One message bit through the register of the generator x^8 + x^2 + x + 1. -/
def crcBit (r : Byte) (bit : Bool) : Byte := if r.getLsbD 7 != bit then (r <<< 1) ^^^ 0x07 else r <<< 1

/-- The register after a list of message bits, started at 0xFF. -/
def crcOfBits (bits : List Bool) : Byte := bits.foldl crcBit 0xFF

/-! ### Trips -/

/-- Kinds whose truth no change of a zone level, a velocity or a trunk state can alter. -/
def TripKind.countsOnly : TripKind → Bool
  | .none | .tracksAtLeast | .missedAtLeast | .survivor | .standingLight => true
  | .velocityBelow | .filterZoneAtLeast | .hallZoneAtLeast => false

/-- Every trip entry of trunk `t` counts tracks, missed sprays, survivors or standing lights alone, so
that no zone level, velocity or trunk state can move its target. -/
def CountingTrips (s : State) (t : Fin 4) : Prop := ∀ slot, (s.tripEntry t slot).kind.countsOnly = true

/-- Kinds whose truth reads a zone level (R102). -/
def TripKind.readsLevel : TripKind → Bool
  | .filterZoneAtLeast | .hallZoneAtLeast => true
  | .none | .tracksAtLeast | .missedAtLeast | .survivor | .standingLight | .velocityBelow => false

/-- No trip entry of trunk `t` reads a zone level, so that no cause handed to a zone can raise its target: its entries
count, or read v_f. -/
def LevelFreeTrips (s : State) (t : Fin 4) : Prop := ∀ slot, (s.tripEntry t slot).kind.readsLevel = false

/-- Where no trip entry reads a zone level, the trunks of `t` are those that the re-evaluation of every target makes of
`s` (R103, R104). -/
def TrunksFollow (s t : State) : Prop := (∀ k, LevelFreeTrips s k) → ∀ k, t.trunk k = (settleAll s).trunk k

/-! ### Trunks -/

/-- A trunk `x` with entry `e` that has entered HALT with cause `c` at `now` (R97, R108, R109). -/
def haltedTrunk (e : TrunkEntry) (c : Cause) (now : Time) (x : Trunk) : Trunk :=
  { x with
    prot := .halt c, fanOut := false, gateOut := e.gatePresent, gateTimer := none, gateConfirmed := false, divertHold := none
    clearDelay := none, startTimer := none, haltEntry := now
    fanStop := if x.fanIn then some (now + BitVec.ofNat 32 (e.fanStopTimeout * 1000)) else none
    fanQuiet := !x.fanIn || x.fanQuiet }

/-- A trunk `x` in a state of a running fan, with no supervision timer (R97, R111). -/
def fanOnTrunk (p : Prot) (x : Trunk) : Trunk :=
  { x with
    prot := p, fanOut := true, gateOut := false, gateTimer := none, gateConfirmed := false, divertHold := none
    clearDelay := none, startTimer := none }

/-- A trunk `x` with entry `e` that a HALT_CLEAR target or request takes out of RUN, WATCH or DIVERT (R107). -/
def stoppedTrunk (e : TrunkEntry) (c : Cause) (now : Time) (x : Trunk) : Trunk :=
  if e.clearDelay = 0 then haltedTrunk e c now x
  else { fanOnTrunk (.stopping c) x with gateOut := x.gateOut, clearDelay := some (now + BitVec.ofNat 32 (e.clearDelay * 1000)) }

/-- A trunk `x` with entry `e` that has entered DIVERT at `now` (R97, R105). -/
def divertedTrunk (e : TrunkEntry) (now : Time) (x : Trunk) : Trunk :=
  { fanOnTrunk .divert x with
    gateOut := true, gateConfirmed := x.gateIn
    gateTimer := if x.gateIn then none else some (now + BitVec.ofNat 32 e.gateTimeout) }

/-- The table of R104, row by row: `u` is what the target of trunk `k` at `s` makes of the trunk. -/
def AnswersTarget (s : State) (k : Fin 4) (u : Trunk) : Prop :=
  let x := s.trunk k
  let e := s.trunkEntry k
  (∀ c, x.prot = .halt c → u = x) ∧
  (target s k = none →
    (x.prot = .run ∨ x.prot = .starting → u = x) ∧ (∀ c, x.prot = .stopping c → u = x) ∧
    (x.prot = .watch → u = fanOnTrunk .run x)) ∧
  (∀ d, target s k = some (.watch, d) →
    (x.prot = .watch ∨ x.prot = .starting → u = x) ∧ (∀ c, x.prot = .stopping c → u = x) ∧
    (x.prot = .run → u = fanOnTrunk .watch x)) ∧
  (x.prot = .divert → (target s k = none ∨ ∃ d, target s k = some (.watch, d)) →
    u = { x with divertHold := some (x.divertHold.getD (s.time + BitVec.ofNat 32 (e.divertHold * 1000))) }) ∧
  (∀ d, target s k = some (.divert, d) →
    (x.prot = .starting → u = x) ∧ (∀ c, x.prot = .stopping c → u = x) ∧
    (x.prot = .divert → u = { x with divertHold := none }) ∧
    (x.prot = .run ∨ x.prot = .watch →
      u = if e.gatePresent then divertedTrunk e s.time x else stoppedTrunk e (.trip d) s.time x)) ∧
  (∀ d, target s k = some (.haltClear, d) →
    (x.prot = .run ∨ x.prot = .watch ∨ x.prot = .divert → u = stoppedTrunk e (.trip d) s.time x) ∧
    (x.prot = .starting → u = haltedTrunk e (.trip d) s.time x) ∧ (∀ c, x.prot = .stopping c → u = x)) ∧
  ∀ d, target s k = some (.haltNow, d) → (∀ c, x.prot ≠ .halt c) → u = haltedTrunk e (.trip d) s.time x

/-- `s` after the test of the run condition of trunk `k` (R111): a STARTING trunk with its FAN input active and v_f at
or above v_run is in RUN. -/
def runTested (k : Fin 4) (s : State) : State :=
  if (s.trunk k).prot = .starting ∧ (s.trunk k).fanIn = true ∧ (s.trunkEntry k).vRun ≤ (s.air k).vf then
    s.setTrunk k (fanOnTrunk .run (s.trunk k))
  else s

/-! ### Frames of the escalation path

What a change of a cause, a level or a trunk state leaves alone (R98, R116, R122, R123, R141, R156). -/

/-- A station but for its scan state. -/
def Station.steady (x : Station) : Station := { x with scan := .off }

/-- A trunk's rings, slot timer, flags and inputs, without its state, outputs and supervision. -/
def Trunk.steady (x : Trunk) : Trunk :=
  { Trunk.reset with
    newRing := x.newRing, missedRing := x.missedRing, slot := x.slot, slotStart := x.slotStart, nextAdvance := x.nextAdvance,
    survivor := x.survivor, fanFault := x.fanFault, fanIn := x.fanIn, gateIn := x.gateIn }

/-- A trunk's counters but for halts by trip. -/
def TrunkCounters.steady (c : TrunkCounters) : TrunkCounters := { c with haltsByTrip := 0 }

/-- What an escalation leaves alone: the listed blocks whole, and of the others the listed parts. -/
structure SameBelow (s t : State) : Prop where
  pending : t.pending = s.pending
  time : t.time = s.time
  draws : t.draws = s.draws
  afm : t.afm = s.afm
  released : t.dfe.released = s.dfe.released
  viewSet : t.dfe.viewSet = s.dfe.viewSet
  viewPos : t.dfe.viewPos = s.dfe.viewPos
  stations : ∀ i, (t.station i).steady = (s.station i).steady
  trc : t.trc = s.trc
  spa : t.spa = s.spa
  trunks : ∀ k, (t.trunk k).steady = (s.trunk k).steady
  manual : ∀ z, (t.zone z).causes.manual = (s.zone z).causes.manual
  fiu : t.fiu = s.fiu
  contacts : ∀ d, (t.door d).contact = (s.door d).contact
  sirenFaults : ∀ i, (t.siren i).fault = (s.siren i).fault
  sirenLoads : ∀ i, (t.siren i).load = (s.siren i).load
  stationCounters : t.rpq.bank.station = s.rpq.bank.station
  valveCounters : t.rpq.bank.valve = s.rpq.bank.valve
  trunkCounters : ∀ k : Fin 4, (t.rpq.bank.trunk[k]).steady = (s.rpq.bank.trunk[k]).steady
  lnk : t.lnk = s.lnk
  cfs : t.cfs = s.cfs

/-- `s` with the survivor flags that `t` has. -/
def State.withSurvivors (s t : State) : State :=
  { s with tkc :=
    { s.tkc with trunks := Vector.ofFn (fun k => { s.trunk k with survivor := (t.trunk k).survivor }) } }

/-! ### Field inputs (R130 to R133) -/

/-- Input `i` as its due debounce forms it: debounced, latch and active states (R130, R131). -/
def debouncedInput (s : State) (i : Fin 32) : Input :=
  let x := s.input i
  let sense := (s.inputEntry i).sense
  let latch := x.latch || (sense.isEdge && x.raw == sense.operated)
  { raw := x.raw, debounced := x.raw, differs := none, latch := latch
    active := if sense.isEdge then latch else x.raw == sense.operated }

/-- The debounce of input `i` is due and changes its active state to `active`, and `i` is the lowest-indexed
input with the role `r` (R132): the receiver of `r` is handed the change. -/
structure HandsOver (s : State) (i : Fin 32) (r : Role) (active : Bool) : Prop where
  due : ∃ t, (s.input i).differs = some t ∧ reached s.time (t + BitVec.ofNat 32 (s.inputEntry i).debounce) = true
  role : (s.inputEntry i).role = r
  lowest : ∀ j, j < i → (s.inputEntry j).role ≠ r
  formed : (debouncedInput s i).active = active
  changes : (s.input i).active ≠ active

/-! ### Tracks (R66) -/

/-- `s` with track `k` ended `o`, an outcome other than SURVIVED (R66): removed, recorded, counted, and its outcome
kept by a sampler that follows this track's request. -/
def endedTrack (k : Track) (o : TrackOutcome) (s : State) : State :=
  let b := s.rpq.bank.trunk[k.trunk]
  let counted : TrunkCounters :=
    { b with
      extinguished := if o = .extinguished then b.extinguished + 1 else b.extinguished
      vanished := if o = .vanished then b.vanished + 1 else b.vanished
      unconfirmed := if o = .unconfirmed then b.unconfirmed + 1 else b.unconfirmed
      discarded := if o = .discarded then b.discarded + 1 else b.discarded }
  let sampler : Sampler :=
    match s.spa.sampler with
    | .tagged r p => .tagged r (if k.tagged ∧ r.track = k.id then some o else p)
    | x => x
  { s with
    trc := { s.trc with tracks := s.trc.tracks.filter (fun q => decide (q.id ≠ k.id)) }
    spa := { s.spa with sampler := sampler }
    rpq := { recorded [.trackEnd k.id k.trunk o k.sightings k.passes] s with
      bank := { s.rpq.bank with trunk := s.rpq.bank.trunk.set k.trunk counted } } }

/-- Track `k` waits on without a next station (R64): its spray is still scheduled, or open and not yet closed. -/
def Track.Waits (k : Track) : Prop := k.outcome = .scheduled ∨ (k.outcome = .opened ∧ k.sprayClosed = false)

/-! ### Grants (R77, R79, R80) -/

/-- A grant to valve `v` is possible with these units in use (R77). -/
def Fits (s : State) (units nonFilter : Nat) (v : Fin 12) : Prop :=
  let e := s.valveEntry v
  units + e.demand ≤ s.supplyEntry.capacity ∧
    (e.cls = .filter ∨ nonFilter + e.demand ≤ s.supplyEntry.capacity - s.supplyEntry.reserve)

/-- The class place of a waiting valve in a scan of the grant queue (R79, R80). -/
def classPlace (s : State) (v : Fin 12) (since : Time) : Nat :=
  if s.supplyEntry.policy = .aged ∧ reached s.time (since + BitVec.ofNat 32 s.supplyEntry.ageLimit) = true then 0
  else match (s.valveEntry v).cls with
    | .filter => 0
    | .trunk => 1
    | .branch => 2

/-- Waiting valve `v` stands before waiting valve `w` in a scan: class place, then the earlier open time, then the
lower index (R79, R80). -/
def StandsBefore (s : State) (v w : Fin 12) : Prop :=
  ∀ x a y b, (s.valve v).st = .waiting x a → (s.valve w).st = .waiting y b →
    classPlace s v a < classPlace s w b ∨ (classPlace s v a = classPlace s w b ∧
      (later y.openTime x.openTime = true ∨ (y.openTime = x.openTime ∧ v < w)))

/-- The supply of `s` with `d` units drawn by a valve of grant class `c`, the valves being `valves`: FLOW_PROVEN
follows, and a rise of units in use from 0 starts the flow prove timer and stops the unexpected flow timer (R81, R85,
R87, R89). -/
def drawnSupply (s : State) (d : Nat) (c : ValveClass) (valves : Vector Valve 12) : Spa :=
  let rises : Prop := s.spa.units = 0 ∧ 0 < d
  { s.spa with
    valves := valves, units := s.spa.units + d, nonFilter := if c = .filter then s.spa.nonFilter else s.spa.nonFilter + d
    flowProven := s.spa.flow && decide (0 < s.spa.units + d)
    proveExpiry := if rises then some (s.time + BitVec.ofNat 32 s.supplyEntry.proveTime) else s.spa.proveExpiry
    unexpExpiry := if rises then none else s.spa.unexpExpiry }

/-- `t` has the supply of `s` after `d` units were given back and the waiting valves scanned: FLOW_PROVEN follows; a
fall of units in use to 0 stops the flow prove timer and, with flow, starts the unexpected flow timer; a grant of the
scan that makes them rise from 0 starts the one and stops the other (R83, R85, R87, R90). The valves, the two counts and
the sampler are named apart. -/
def ReleasedSupply (s t : State) (d : Nat) : Prop :=
  let left := s.spa.units - d
  let falls : Prop := 0 < s.spa.units ∧ left = 0
  let rises : Prop := left = 0 ∧ 0 < t.spa.units
  t.spa = { s.spa with
    valves := t.spa.valves, units := t.spa.units, nonFilter := t.spa.nonFilter, sampler := t.spa.sampler
    flowProven := s.spa.flow && decide (0 < t.spa.units)
    proveExpiry := if rises then some (s.time + BitVec.ofNat 32 s.supplyEntry.proveTime) else if falls then none else s.spa.proveExpiry
    unexpExpiry := if rises then none else if falls ∧ s.spa.flow = true then
      some (s.time + BitVec.ofNat 32 (s.supplyEntry.unexpTime * 1000)) else s.spa.unexpExpiry } ∧ left ≤ t.spa.units

/-! ### Sirens (R162) -/

/-- Sirens `i` and `j` are partners of each other, and no other siren names either. -/
def Mutual (s : State) (i j : Fin 8) : Prop :=
  partnerOf s i = some j ∧ partnerOf s j = some i ∧
    ∀ k, k ≠ i → k ≠ j → partnerOf s k ≠ some i ∧ partnerOf s k ≠ some j

/-- Siren `i` would be driven with its partner's output off: an on step, and no LOAD_SHORT (R162). -/
def Siren.calls (x : Siren) : Bool := x.st.wantsOn && !decide (x.fault = some .shortLoad)

/-- Step `n` of pattern `p`, entered by a sounding siren at `s` (R160). -/
def soundingStep (s : State) (p : Fin 8) (n : Nat) : SirenState :=
  let slot := (s.patternEntry p).slots.toList.getD n { out := 0, units := 1 }
  .sounding p n (decide (slot.out = 1)) (s.time + BitVec.ofNat 32 (slot.units.toNat * 50)) none false

/-- Step `n` of pattern `p`, entered at `s` by a siren whose test ends at `ends`; under a pattern of 0 steps none is
entered (R160, R164). -/
def testStep (s : State) (p : Fin 8) (n : Nat) (ends : Time) (seen : Bool) : SirenState :=
  let slot := (s.patternEntry p).slots.toList.getD n { out := 0, units := 1 }
  if (s.patternEntry p).count = 0 then .test p n false none ends seen
  else .test p n (decide (slot.out = 1)) (some (s.time + BitVec.ofNat 32 (slot.units.toNat * 50))) ends seen

/-- `y` is siren `i` of `s` after its start (R159, R160, R164), but for its output: it sounds its wanted pattern from
step 0, OFF under a pattern of 0 steps, or, wanting none, begins its pending test. -/
def Starts (s : State) (i : Fin 8) (y : Siren) : Prop :=
  let x := s.siren i
  y = { x with st := y.st, output := y.output } ∧
    (∀ p, x.wanted = some p → y.st = if (s.patternEntry p).count = 0 then .off else soundingStep s p 0) ∧
    ∀ w, x.wanted = none → x.st = .startWait (some w) →
      y.st = testStep s w.pattern 0 (s.time + BitVec.ofNat 32 w.duration) x.fault.isSome

/-- Waiting siren `i` stands before waiting siren `j` in the start queue (R158). -/
def QueuedBefore (s : State) (i j : Fin 8) : Prop :=
  queueLevel s j < queueLevel s i ∨ (queueLevel s j = queueLevel s i ∧ i < j)

/-! ### The checks of CFGOUT (R192), entry by entry -/

/-- The zone is enabled and of kind `k`. -/
def Tables.zoneOk (x : Tables) (z : Fin 16) (k : ZoneKind) : Prop := (x.zone[z]).enabled = true ∧ (x.zone[z]).kind = k

/-- Checks 5 to 7 on a position. -/
def Tables.positionOk (x : Tables) (p : Position) : Prop :=
  (x.trunk[p.trunk]).enabled = true ∧
    ∀ b : Fin 16, p.branch = some b → (x.branch[b]).enabled = true ∧ (x.branch[b]).trunk = p.trunk ∧ (x.branch[b]).junction < p.dist

/-- `p` is downstream of `q` by the three conditions of R8. -/
def Tables.Below (x : Tables) (p q : Position) : Prop :=
  p.trunk = q.trunk ∧ p.dist < q.dist ∧
    (p.branch = q.branch ∨ (p.branch = none ∧ ∃ b : Fin 16, q.branch = some b ∧ p.dist ≤ (x.branch[b]).junction))

/-- The tables pass every check of R192. -/
structure Tables.Valid (x : Tables) : Prop where
  trunks : ∀ t : Fin 4, (x.trunk[t]).enabled = true →
    x.zoneOk (x.trunk[t]).filterZone .filter ∧ (x.trunk[t]).vStall ≤ (x.trunk[t]).vRun ∧ (x.trunk[t]).vStall ≤ (x.trunk[t]).fallback
  branches : ∀ b : Fin 16, (x.branch[b]).enabled = true →
    (x.trunk[(x.branch[b]).trunk]).enabled = true ∧ x.zoneOk (x.branch[b]).hallZone .hall
  stationPositions : ∀ i : Fin 16, (x.station[i]).enabled = true → x.positionOk (x.station[i]).pos
  hystereses : ∀ i : Fin 16, (x.station[i]).enabled = true → (x.station[i]).hysteresis < (x.station[i]).threshold
  stationValves : ∀ (i : Fin 16) (v : Fin 12), (x.station[i]).enabled = true → (x.station[i]).valve = some v →
    (x.valve[v]).enabled = true ∧ (x.Below (x.valve[v]).pos (x.station[i]).pos ∨ (x.valve[v]).pos = (x.station[i]).pos)
  inlets : ∀ i : Fin 16, (x.station[i]).enabled = true → (x.station[i]).inlet = true →
    (x.station[i]).pos.branch = none ∧ ∀ j : Fin 16, (x.station[j]).enabled = true → (x.station[j]).inlet = true →
      (x.station[j]).pos.trunk = (x.station[i]).pos.trunk → j = i
  valves : ∀ v : Fin 12, (x.valve[v]).enabled = true → x.positionOk (x.valve[v]).pos
  supply : x.supply.reserve < x.supply.capacity ∧
    ∀ v : Fin 12, (x.valve[v]).enabled = true → (x.valve[v]).demand ≤ x.supply.capacity
  zoneRoles : ∀ (i : Fin 32) (z : Fin 16), (x.input[i]).role = .call z ∨ (x.input[i]).role = .heat z → (x.zone[z]).enabled = true
  trunkRoles : ∀ (i : Fin 32) (t : Fin 4), (x.input[i]).role = .fan t ∨ (x.input[i]).role = .gate t → (x.trunk[t]).enabled = true
  doorRoles : ∀ (i : Fin 32) (d : Fin 16), (x.input[i]).role = .door d → (x.door[d]).enabled = true
  singleRoles : ∀ i j : Fin 32, (x.input[i]).role = (x.input[j]).role → i ≠ j →
    (x.input[i]).role = .none ∨ (∃ z : Fin 16, (x.input[i]).role = .call z) ∨ ∃ z : Fin 16, (x.input[i]).role = .heat z
  doors : ∀ d : Fin 16, (x.door[d]).enabled = true → (x.zone[(x.door[d]).zoneA]).enabled = true ∧
    (∀ z : Fin 16, (x.door[d]).zoneB = some z → (x.zone[z]).enabled = true) ∧
      ∀ t : Fin 4, (x.door[d]).interlock = some t → (x.trunk[t]).enabled = true
  sirenZones : ∀ (i : Fin 8) (z : Fin 16), (x.siren[i]).enabled = true → (x.siren[i]).zones.getLsbD z.val = true → (x.zone[z]).enabled = true
  sirenPatterns : ∀ i p : Fin 8, (x.siren[i]).enabled = true →
    (x.siren[i]).watchPattern = some p ∨ (x.siren[i]).alertPattern = some p ∨ (x.siren[i]).firePattern = some p →
      0 < (x.pattern[p]).count
  partners : ∀ i j : Fin 8, (x.siren[i]).enabled = true → (x.siren[i]).partner = some j →
    (x.siren[j]).enabled = true ∧ (x.siren[j]).partner = some i

/-! ### Entries in range (R191) -/

/-- Every entry is one that its bytes read back as: each field is in the range its chapter gives. -/
structure Tables.InRange (x : Tables) : Prop where
  trunks : ∀ i : Fin 4, TrunkEntry.decode (x.trunk[i]).encode = some x.trunk[i]
  branches : ∀ i : Fin 16, BranchEntry.decode (x.branch[i]).encode = some x.branch[i]
  stations : ∀ i : Fin 16, StationEntry.decode (x.station[i]).encode = some x.station[i]
  valves : ∀ i : Fin 12, ValveEntry.decode (x.valve[i]).encode = some x.valve[i]
  supply : SupplyEntry.decode x.supply.encode = some x.supply
  trips : ∀ i : Fin 24, TripEntry.decode (x.trip[i]).encode = some x.trip[i]
  zones : ∀ i : Fin 16, ZoneEntry.decode (x.zone[i]).encode = some x.zone[i]
  inputs : ∀ i : Fin 32, InputEntry.decode (x.input[i]).encode = some x.input[i]
  doors : ∀ i : Fin 16, DoorEntry.decode (x.door[i]).encode = some x.door[i]
  sirens : ∀ i : Fin 8, SirenEntry.decode (x.siren[i]).encode = some x.siren[i]
  patterns : ∀ i : Fin 8, PatternEntry.decode (x.pattern[i]).encode = some x.pattern[i]
  global : GlobalEntry.decode x.global.encode = some x.global

/-! ### Invariants -/

/-- Every entry of the working tables and of the nonvolatile copy is in range: a TWRITE takes no other (R191), and the
defaults are in range. -/
def EntriesOk (s : State) : Prop := s.cfs.tables.InRange ∧ s.cfs.copy.InRange

/-- The report queue holds at most 64 records, the dropped count at most 255, and ATTN stands as R185 says. -/
def QueueOk (s : State) : Prop :=
  s.rpq.queue.length ≤ 64 ∧ s.rpq.dropped ≤ 255 ∧
    (s.rpq.attn = true ↔ s.rpq.queue ≠ [] ∧ ((∃ r ∈ s.rpq.queue, r.urgent = true) ∨
      s.globalEntry.fillMark ≤ s.rpq.queue.length ∨ s.rpq.holdTimer = .expired))

/-- The levels of every zone: the current level is the highest of its cause set, NORMAL for a disabled zone
(R122), and the latched level is never below it (R123). -/
structure LevelsOk (s : State) : Prop where
  formed : ∀ z, (s.zone z).current = if (s.zoneEntry z).enabled then (s.zone z).causes.top else .normal
  latched : ∀ z, (s.zone z).current.rank ≤ (s.zone z).latched.rank

/-- The track table (R40, R41): at most 32 tracks with distinct ids; the spray outcome is NONE exactly
while the spray valve is absent; a present next station is downstream of the last station. -/
structure TracksOk (s : State) : Prop where
  room : s.trc.tracks.length ≤ 32
  distinct : (s.trc.tracks.map Track.id).Nodup
  outcomes : ∀ k ∈ s.trc.tracks, k.outcome = .none ↔ k.valve = none
  ahead : ∀ k ∈ s.trc.tracks, ∀ e, k.next = some e →
    s.cfs.tables.Below (s.stationEntry e.station).pos (s.stationEntry k.last).pos

/-- The units a valve holds (R77). -/
def heldUnits (s : State) (v : Fin 12) : Nat :=
  match (s.valve v).st with
  | .spraying _ _ _ _ | .test _ _ => (s.valveEntry v).demand
  | .idle | .scheduled _ | .waiting _ _ => 0

/-- The units a valve holds with a grant class that is not FILTER; a test has class BRANCH (R77, R89). -/
def heldNonFilter (s : State) (v : Fin 12) : Nat :=
  match (s.valve v).st with
  | .spraying _ _ _ c => if c = .filter then 0 else (s.valveEntry v).demand
  | .test _ _ => (s.valveEntry v).demand
  | .idle | .scheduled _ | .waiting _ _ => 0

/-- The supply (R77): the two counts are the sums of the demands held, and never exceed C and C - R. -/
structure SupplyOk (s : State) : Prop where
  inUse : s.spa.units = (valves12.map (heldUnits s)).sum
  nonFilter : s.spa.nonFilter = (valves12.map (heldNonFilter s)).sum
  withinCapacity : s.spa.units ≤ s.supplyEntry.capacity
  withinReserve : s.spa.nonFilter ≤ s.supplyEntry.capacity - s.supplyEntry.reserve

/-- The outputs of a trunk follow its state (R97): the fan is on in the fan-on states; the gate is at
divert in DIVERT, normal in STARTING, RUN and WATCH, and in HALT at divert exactly for a trunk with a gate that is
enabled (R117) or, while the part is in START, any trunk with a gate (R118, R119). -/
def TrunkOutputsOk (s : State) (t : Fin 4) : Prop :=
  (s.trunk t).fanOut = (s.trunk t).prot.fanOn ∧
    match (s.trunk t).prot with
    | .divert => (s.trunk t).gateOut = true
    | .starting | .run | .watch => (s.trunk t).gateOut = false
    | .halt _ => (s.trunk t).gateOut =
        ((s.trunkEntry t).gatePresent && ((s.trunkEntry t).enabled || decide (s.cfs.mode = .start)))
    | .stopping _ => True

/-- Trunk `k`, if enabled, has answered its target as the table of R104 says: no target above its state is left to act,
a WATCH without a target has ended, and a DIVERT runs its hold exactly while its target is below DIVERT (R106). -/
def TargetAnswered (s : State) (k : Fin 4) : Prop :=
  (s.trunkEntry k).enabled = true →
    let x := s.trunk k
    let holds : Prop := x.prot = .divert → x.divertHold ≠ none
    match target s k with
    | none => x.prot ≠ .watch ∧ holds
    | some (.watch, _) => x.prot ≠ .run ∧ holds
    | some (.divert, _) => x.prot ≠ .run ∧ x.prot ≠ .watch ∧ (x.prot = .divert → x.divertHold = none)
    | some (.haltClear, _) => (∃ c, x.prot = .stopping c) ∨ ∃ c, x.prot = .halt c
    | some (.haltNow, _) => ∃ c, x.prot = .halt c

/-- A branch's machine stop is released exactly while the branch and its trunk are enabled and the
trunk is in RUN, WATCH or DIVERT (R97, R117). -/
def MachineStopOk (s : State) (b : Fin 16) : Prop :=
  s.tkc.machineStop[b] = false ↔ (s.branchEntry b).enabled = true ∧ (s.trunkEntry (s.branchEntry b).trunk).enabled = true ∧
    ((s.trunk (s.branchEntry b).trunk).prot = .run ∨ (s.trunk (s.branchEntry b).trunk).prot = .watch ∨
      (s.trunk (s.branchEntry b).trunk).prot = .divert)

/-- Fan, gate and machine-stop outputs follow the trunk states (R97); a disabled trunk is in HALT with no
timer of a state running (R117). -/
structure OutputsOk (s : State) : Prop where
  trunks : ∀ t, TrunkOutputsOk s t
  stops : ∀ b, MachineStopOk s b
  disabled : ∀ t, (s.trunkEntry t).enabled = false → (∃ c, (s.trunk t).prot = .halt c) ∧ (s.trunk t).gateTimer = none ∧
    (s.trunk t).divertHold = none ∧ (s.trunk t).clearDelay = none ∧ (s.trunk t).startTimer = none

/-- A trunk whose STALLED flag is clear is enabled and has v_f at or above v_stall (R16, R18, R19); no
velocity hold runs for a disabled trunk (R5). -/
structure AirOk (s : State) : Prop where
  unstalled : ∀ t, (s.air t).stalled = false → (s.trunkEntry t).enabled = true ∧ (s.trunkEntry t).vStall ≤ (s.air t).vf
  disabled : ∀ t, (s.trunkEntry t).enabled = false → (s.air t).holdExpiry = none

/-- The holder of every door is on exactly in the holding states (R140). -/
def HoldersOk (s : State) : Prop :=
  ∀ d, (s.door d).holder = true ↔
    (s.door d).st = .held ∨ (s.door d).st = .ready ∨ (∃ t e, (s.door d).st = .delayed t e) ∨ ∃ x, (s.door d).st = .waitFan x

/-- Siren outputs (R162): driven only by a step that wants it on and with no LOAD_SHORT standing, and
two sirens that name each other are never driven together. -/
structure SirensOk (s : State) : Prop where
  wanted : ∀ i, (s.siren i).output = true → (s.siren i).st.wantsOn = true ∧ (s.siren i).fault ≠ some .shortLoad
  partners : ∀ i j, i ≠ j → (s.sirenEntry i).partner = some j → (s.sirenEntry j).partner = some i →
    (s.siren i).output = true → (s.siren j).output = false

/-- While the part is in START its blocks hold their reset values (R20, R39, R96, R119, R136, R153, R168). -/
structure StartOk (s : State) : Prop where
  afm : s.afm = State.reset.afm
  released : s.dfe.released = false
  stations : ∀ i, s.station i = { Station.reset with loop := (s.station i).loop }
  tracks : s.trc = Trc.reset
  sprays : s.spa = Spa.reset
  trunks : ∀ t, s.trunk t = { Trunk.reset with gateOut := (s.trunkEntry t).gatePresent }
  zones : s.znt = State.reset.znt
  inputs : ∀ i, s.input i = { Input.reset with raw := (s.input i).raw }
  doors : s.drc = State.reset.drc
  sirens : ∀ i, s.siren i = { Siren.reset with load := (s.siren i).load }
  lastStart : s.srs.lastStart = none
  key : s.cfs.key = false
  faults : s.cfs.configInvalid = false ∧ s.cfs.storeInvalid = false
  store : s.cfs.storeState = .none ∧ s.cfs.storeLock = false

/-- The invariant of START: nothing moves before the load completes. -/
def StartHolds (s : State) : Prop := s.cfs.mode = .start → StartOk s

/-- Every cause of every zone stands exactly while its sources hold it (R121): the cause set held is the one
gathered from the inputs, stations, trunks and supply as they are. A standing light is an open run (R29). -/
structure CausesOk (s : State) : Prop where
  gathered : ∀ z, (s.zone z).causes = causesOf s z
  standing : ∀ i, (s.station i).standing = true → (s.station i).run ≠ none
  start : StartHolds s

/-- Every receiver of a single role holds the active state of its input (R132), and outside START every active
state is the one its sense gives (R131). -/
structure HandedOk (s : State) : Prop where
  flow : s.spa.flow = handedState s .flow
  fans : ∀ k, (s.trunk k).fanIn = handedState s (.fan k)
  gates : ∀ k, (s.trunk k).gateIn = handedState s (.gate k)
  contacts : ∀ d, (s.door d).contact = handedState s (.door d)
  key : s.cfs.key = handedState s .key
  formed : s.cfs.mode ≠ .start → ∀ i, (s.input i).active =
    if (s.inputEntry i).sense.isEdge then (s.input i).latch else (s.input i).debounced == (s.inputEntry i).sense.operated
  start : StartHolds s

/-! ### Table writes (R191) -/

/-- How a TWRITE to table `id` is taken: RANGE for an index outside the table, BUSY while a STORE runs and, for
a table of the topology, while a track or a valve is active, RANGE for a bad field; otherwise the entry
replaces the working one and `write`, what the owner does with it, is the whole effect but for the reply. No other
entry, and nothing of the nonvolatile copy, changes. -/
def Takes {E : Type} {n : Nat} (id : Byte) (cmd : Byte → Byte → List Byte → Instr) (topology : Bool)
    (decode : List Byte → Option E) (put : Fin n → E → Tables → Tables) (write : Fin n → E → State → State) (s : State) : Prop :=
  ∀ (tag index : Byte) (entry : List Byte), Reaches .twrite (id :: index :: entry) s →
    let busy : Prop := (∃ t, s.cfs.storeState = .running t) ∨
      (topology = true ∧ (s.trc.tracks ≠ [] ∨ ∃ v, (s.valve v).st ≠ .idle))
    let c := cmd tag index entry
    let hunting : State := { s with lnk := { s.lnk with rx := .hunt } }
    (n ≤ index.toNat → exec c s = .next (answered .twrite tag .range [] s)) ∧
    ∀ i : Fin n, index.toNat = i.val →
      (busy → exec c s = .next (answered .twrite tag .busy [] s)) ∧
      (¬ busy → decode entry = none → exec c s = .next (answered .twrite tag .range [] s)) ∧
      ∀ e, ¬ busy → decode entry = some e →
        let t : State := { write i e hunting with lnk := replied .twrite tag .ok [] s }
        exec c s = .next t ∧
        t.cfs.tables = put i e s.cfs.tables ∧ t.cfs.copy = s.cfs.copy ∧ t.cfs.copyGood = s.cfs.copyGood ∧
        t.cfs.storeState = s.cfs.storeState ∧ t.cfs.storeLock = s.cfs.storeLock ∧
        t.pending = s.pending ∧ t.time = s.time ∧ t.draws = s.draws

end Sys2Proof.Machine
end

