-- ==== Sys2Proof/WellFormed.lean ====
section
/-! DEFINITION. Which commands can arise on the wire. `exec` answers on every term; a command that
fails this check is one no sender can form (a payload longer than a frame, a good LEN byte named
as a bad one, a catalogued KIND named as an unknown one, a VIEW with a mask that has no mask). -/

namespace Sys2Proof

/-- The request codes of the catalogue (R179). -/
def catalogueCodes : List Nat :=
  [0x01, 0x02, 0x03, 0x04, 0x05, 0x06, 0x07, 0x08, 0x10, 0x11, 0x12, 0x13, 0x20, 0x21, 0x30, 0x31,
   0x40, 0x41, 0x42, 0x50, 0x51, 0x52, 0x53, 0x54, 0x55]

/-- A request payload has 0 to 240 bytes (R170). -/
def payloadFits (payload : List Byte) : Bool := payload.length ≤ 240

/-- A TWRITE payload is the table id, the index and the entry (R179): the entry has at most 238 bytes. -/
def entryFits (entry : List Byte) : Bool := entry.length ≤ 238

/-- A command a sender can form. -/
def Instr.wellFormed : Instr → Bool
  | .powerOn _ | .restart _ | .loadCompletion | .lineBreak | .framingError | .gapDeadline | .replySent => true
  | .badLengthByte b => b.toNat < 2 || 242 < b.toNat
  | .frameDiscard body _ => 2 ≤ body.length && body.length ≤ 242
  | .unknownRequest kind _ payload => !catalogueCodes.contains kind.toNat && payloadFits payload
  | .viewMask _ payload => !payload.isEmpty && payloadFits payload
  | .idRequest _ p | .stat _ p | .fetch _ p | .cntr _ p | .smpl _ p | .trks _ p | .inps _ p | .zack _ p | .hush _ p
  | .sound _ p | .zset _ p | .trun _ p | .thalt _ p | .dhold _ p | .dshut _ p | .htest _ p | .vtest _ p | .stest _ p
  | .cfgin _ p | .cfgout _ p | .tread _ p | .store _ p | .rstrt _ p => payloadFits p
  | .viewNext _ => true
  | .twriteTrunk _ _ e | .twriteBranch _ _ e | .twriteStation _ _ e | .twriteValve _ _ e | .twriteSupply _ _ e
  | .twriteTrip _ _ e | .twriteZone _ _ e | .twriteInput _ _ e | .twriteDoor _ _ e | .twriteSiren _ _ e
  | .twritePattern _ _ e | .twriteGlobal _ _ e => entryFits e
  | .storeCompletion _ | .goodReading _ _ | .outOfRangeReading _ | .holdExpiry _ | .detectorSample _ _
  | .dutyWindowOpen _ | .dutyWindowEnd _ | .standingTimeReached _ | .loopFault _ _ | .loopRecovery _
  | .testWindowExpiry _ | .windowPass _ | .openTimeReached _ | .sprayMissed _ | .valveClose _ | .flowProveExpiry
  | .unexpectedFlowExpiry | .testSprayEnd _ | .slotAdvance _ | .gateTimerExpiry _ | .divertHoldExpiry _
  | .clearDelayExpiry _ | .fanStopTimeout _ | .startTimeout _ | .rawInputChange _ _ | .debounceExpiry _
  | .releaseDelayExpiry _ | .closeTimerExpiry _ | .startSlotFree | .lastStartExpiry | .stepEnd _ | .sirenTestEnd _
  | .loadFault _ _ | .loadRecovery _ | .holdTimerExpiry | .characterReceived _ => true

/-- The LEN byte of the frame that carries a command (R170): KIND, TAG and payload; none for an event. -/
def Instr.frameLen : Instr → Option Nat
  | .frameDiscard body _ => some body.length
  | .unknownRequest _ _ p => some (p.length + 2)
  | .idRequest _ p | .stat _ p | .fetch _ p | .cntr _ p | .smpl _ p | .trks _ p | .inps _ p | .viewMask _ p | .zack _ p
  | .hush _ p | .sound _ p | .zset _ p | .trun _ p | .thalt _ p | .dhold _ p | .dshut _ p | .htest _ p | .vtest _ p
  | .stest _ p | .cfgin _ p | .cfgout _ p | .tread _ p | .store _ p | .rstrt _ p => some (p.length + 2)
  | .viewNext _ => some 2
  | .twriteTrunk _ _ e | .twriteBranch _ _ e | .twriteStation _ _ e | .twriteValve _ _ e | .twriteSupply _ _ e
  | .twriteTrip _ _ e | .twriteZone _ _ e | .twriteInput _ _ e | .twriteDoor _ _ e | .twriteSiren _ _ e
  | .twritePattern _ _ e | .twriteGlobal _ _ e => some (e.length + 4)
  | .powerOn _ | .restart _ | .loadCompletion | .lineBreak | .framingError | .gapDeadline | .replySent | .badLengthByte _
  | .storeCompletion _ | .goodReading _ _ | .outOfRangeReading _ | .holdExpiry _ | .detectorSample _ _
  | .dutyWindowOpen _ | .dutyWindowEnd _ | .standingTimeReached _ | .loopFault _ _ | .loopRecovery _
  | .testWindowExpiry _ | .windowPass _ | .openTimeReached _ | .sprayMissed _ | .valveClose _ | .flowProveExpiry
  | .unexpectedFlowExpiry | .testSprayEnd _ | .slotAdvance _ | .gateTimerExpiry _ | .divertHoldExpiry _
  | .clearDelayExpiry _ | .fanStopTimeout _ | .startTimeout _ | .rawInputChange _ _ | .debounceExpiry _
  | .releaseDelayExpiry _ | .closeTimerExpiry _ | .startSlotFree | .lastStartExpiry | .stepEnd _ | .sirenTestEnd _
  | .loadFault _ _ | .loadRecovery _ | .holdTimerExpiry | .characterReceived _ => none

end Sys2Proof
end

