-- ==== Sys2Proof/Certificates/Slice0/Obligations.lean ====
section
/-! DEFINITION. The statements for the provers. A statement whose conclusion is `exec c s = .next t` is
the completion statement of `c`; `t` names every field the command may change and takes the rest from `s`. -/

open Sys2Proof Sys2Proof.Machine

/-! ### The queue and the resets -/

/-- The command at the front of the queue runs on the state with the queue's rest. -/
def Obligations.StepRunsFrontCommand : Prop :=
  ∀ (c : Instr) (rest : List Instr) (s : State), s.pending = c :: rest → step s = exec c { s with pending := rest }

/-- No command faults or is refused: each answers a next state with the queue and the model's counter as
they were, and with the time as it was but for POWER-ON. On an empty queue the part runs by its clock: the
first due event, a STORE at its bound with a read-back of either value, or one millisecond (the model's
choice, log entries 1 and 3). -/
def Obligations.CommandsAndClockAnswerNextStates : Prop :=
  (∀ (c : Instr) (s : State), ∃ t, exec c s = .next t ∧ t.pending = s.pending ∧ t.draws = s.draws ∧
    ((∀ strap, c ≠ .powerOn strap) → t.time = s.time)) ∧
  (∀ s : State, ∃ t, step s = .next t) ∧
  ∀ s : State, s.pending = [] →
    (∀ c rest, dueEvents s = c :: rest → step s = exec c s) ∧
    (dueEvents s = [] → (∀ t, s.cfs.storeState = .running t → reached s.time (after t 600) = false) →
      step s = .next { s with time := s.time + 1 }) ∧
    (dueEvents s = [] → ∀ t, s.cfs.storeState = .running t → reached s.time (after t 600) = true →
      ∃ m, step s = exec (.storeCompletion m) { s with draws := s.draws + 1 })

/-- Right after POWER-ON every block stands at its reset value (R19, R38, R70, R95, R118, R136, R137,
R153, R168, R181, R189, R195). The model's choices: the copy is not good and the strap not asserted (log
entry 5), the pins and the debounced states are low (log entry 6), and the working tables hold in START what
the load selects, here the defaults (log entry 8). Every invariant holds there. -/
def Obligations.ResetBlocksHoldTheirResetValues : Prop :=
  let s := State.reset
  s.pending = [] ∧ s.time = 0 ∧
  (∀ t, s.air t = { vf := 0, stage := .clear, faultStart := none, holdExpiry := none, stalled := true }) ∧
  s.dfe.released = false ∧ s.dfe.viewSet = 0 ∧ s.dfe.viewPos = none ∧
  (∀ i, (s.station i).scan = .off ∧ (s.station i).run = none ∧ (s.station i).standing = false ∧
    (s.station i).lastResult = .none ∧ (s.station i).lastSample = 0 ∧ (s.station i).lastSampleTime = 0 ∧
    (s.station i).emitter = false) ∧
  s.trc.tracks = [] ∧ s.trc.idCounter = 0 ∧
  (∀ v, s.valve v = { st := .idle, output := false }) ∧ s.spa.units = 0 ∧ s.spa.nonFilter = 0 ∧
  s.spa.flowProven = false ∧ s.spa.supplyFault = false ∧ s.spa.unexpRaised = false ∧ s.spa.proveExpiry = none ∧
  s.spa.unexpExpiry = none ∧ s.spa.sampler = .armed ∧ s.spa.samplerCount = 0 ∧
  (∀ t, (s.trunk t).prot = .halt .start ∧ (s.trunk t).fanOut = false ∧ (s.trunk t).newRing = Vector.replicate 8 0 ∧
    (s.trunk t).missedRing = Vector.replicate 8 0 ∧ (s.trunk t).slot = 0 ∧ (s.trunk t).survivor = false ∧
    (s.trunk t).fanQuiet = false ∧ (s.trunk t).fanFault = false ∧ (s.trunk t).nextAdvance = none ∧
    (s.trunk t).gateOut = (s.trunkEntry t).gatePresent ∧
    (s.trunk t).gateTimer = none ∧ (s.trunk t).divertHold = none ∧ (s.trunk t).clearDelay = none ∧
    (s.trunk t).startTimer = none ∧ (s.trunk t).fanStop = none) ∧
  (∀ b : Fin 16, s.tkc.machineStop[b] = true) ∧
  (∀ z, s.zone z = { causes := CauseSet.empty, current := .normal, latched := .normal, ack := false, silenced := false, hush := .normal }) ∧
  (∀ i, s.input i = { raw := false, debounced := false, differs := none, latch := false, active := false }) ∧
  (∀ d, (s.door d).st = .held ∧ (s.door d).holder = true) ∧
  (∀ i, (s.siren i).st = .off ∧ (s.siren i).wanted = none ∧ (s.siren i).output = false ∧ (s.siren i).fault = none) ∧
  s.srs.lastStart = none ∧
  s.rpq = { queue := [], dropped := 0, holdTimer := .stopped, attn := false, bank := Bank.zero } ∧
  s.lnk = { rx := .hunt, tx := none, discarded := 0, restartPending := false } ∧
  s.cfs.mode = .start ∧ s.cfs.storeState = .none ∧ s.cfs.storeLock = false ∧ s.cfs.key = false ∧
  s.cfs.copyGood = false ∧ s.cfs.strap = false ∧ s.cfs.tables = Tables.default ∧
  QueueOk s ∧ LevelsOk s ∧ CausesOk s ∧ TracksOk s ∧ SupplyOk s ∧ OutputsOk s ∧ SirensOk s ∧ StartHolds s ∧ AirOk s ∧ HoldersOk s ∧ HandedOk s ∧
  EntriesOk s ∧ ∀ k, TargetAnswered s k

/-- POWER-ON and a RESTART that is due put every block in its reset state and begin the load of the tables the
start-up precedence selects; POWER-ON zeroes the time and the counters, RESTART keeps both; the nonvolatile copy,
the raw inputs, the loops and the loads are as they were. That the raw inputs, the loops and the loads, which no
rule gives a value, go through both as they were is the model's choice (log entry 6), and so is that the command
carries the strap's level as its operand (log entry 26). That the working tables hold the selected set from the
reset on, and not only from the completion of the load, is the model's choice (log entry 8), and so is that a
command whose condition does not hold changes nothing (log entry 4). -/
def Obligations.ResetsBeginTheStartUp : Prop :=
  ∀ (strap : Bool) (s : State),
    let done (t : State) (now : Time) (bank : Bank) : Prop :=
      StartOk t ∧ t.cfs.mode = .start ∧ t.time = now ∧ t.rpq = { Rpq.reset with bank := bank } ∧ t.lnk = Lnk.reset ∧
      t.dfe.viewSet = 0 ∧ t.dfe.viewPos = none ∧ (∀ b : Fin 16, t.tkc.machineStop[b] = true) ∧
      t.cfs.tables = (if strap = true ∨ s.cfs.copyGood = false then Tables.default else s.cfs.copy) ∧
      t.cfs.copy = s.cfs.copy ∧ t.cfs.copyGood = s.cfs.copyGood ∧ t.cfs.strap = strap ∧
      (∀ i, (t.input i).raw = (s.input i).raw) ∧ (∀ i, (t.station i).loop = (s.station i).loop) ∧
      (∀ i, (t.siren i).load = (s.siren i).load) ∧ t.pending = s.pending ∧ t.draws = s.draws
    (∃ t, exec (.powerOn strap) s = .next t ∧ done t 0 Bank.zero) ∧
    (s.lnk.restartPending = true → s.lnk.tx = none → ∃ t, exec (.restart strap) s = .next t ∧ done t s.time s.rpq.bank) ∧
    (s.lnk.restartPending = false ∨ s.lnk.tx ≠ none → exec (.restart strap) s = .next s)

/-- The completion of the load: the part enters CONFIGURE under the strap and ARMED without it, inputs are debounced
from their raw states, every enabled trunk stands in HALT under supervision with its slot timer running, disabled
ones show no cause, scanning is released in ARMED and every station that may scan is in SCAN_DUTY or, on a faulty
loop, in FAULT; every zone holds its causes and every door the state its contact and its zones give it: the only
causes found are call points and heat detectors, at FIRE, so a door that its zones release takes no release delay; a
FLOW input found active is handed to the supply, with no units in use, and starts the unexpected flow timer (R88,
R95); enabled sirens are supervised; a bad copy sets STORE_INVALID with its record. Tables, copy, link, tracks and
views are as they were. The entries loaded are in range, as every step keeps them. -/
def Obligations.LoadCompletionTakesStartingValues : Prop :=
  ∀ s : State, s.cfs.mode = .start → StartOk s → EntriesOk s →
    ∃ t, exec .loadCompletion s = .next t ∧
      t.cfs = { s.cfs with
        mode := if s.cfs.strap then .configure else .armed, key := handedState t .key, storeInvalid := s.cfs.loadInvalid } ∧
      (t.dfe.released = true ↔ s.cfs.strap = false) ∧
      (∀ i, (t.input i).raw = (s.input i).raw ∧ (t.input i).debounced = (s.input i).raw ∧ (t.input i).differs = none ∧
        (t.input i).latch = ((s.inputEntry i).sense.isEdge && (s.input i).raw == (s.inputEntry i).sense.operated) ∧
        (t.input i).active = ((s.input i).raw == (s.inputEntry i).sense.operated)) ∧
      (∀ k, (t.trunk k).fanIn = handedState t (.fan k) ∧ (t.trunk k).gateIn = handedState t (.gate k)) ∧
      (∀ k, (s.trunkEntry k).enabled = true →
        (t.trunk k).prot = .halt .start ∧ (t.trunk k).haltEntry = s.time ∧ (t.trunk k).slotStart = s.time ∧
        (t.trunk k).nextAdvance = some (s.time + BitVec.ofNat 32 (s.trunkEntry k).slotLen) ∧
        (t.trunk k).gateOut = (s.trunkEntry k).gatePresent ∧ (t.trunk k).fanQuiet = !(t.trunk k).fanIn ∧
        (t.trunk k).fanStop =
          (if (t.trunk k).fanIn then some (s.time + BitVec.ofNat 32 ((s.trunkEntry k).fanStopTimeout * 1000)) else none)) ∧
      (∀ k, (s.trunkEntry k).enabled = false → (t.trunk k).prot = .halt .none ∧ (t.trunk k).nextAdvance = none) ∧
      (∀ d, (s.doorEntry d).enabled = false → (t.door d).st = .disabled ∧ (t.door d).holder = false) ∧
      (∀ d, (s.doorEntry d).enabled = true →
        let e := s.doorEntry d
        let free : Prop := ∀ k, e.interlock = some k → (s.trunkEntry k).enabled = false ∨ (t.trunk k).fanQuiet = true
        let held : Prop := levelTrigger t d = false
        let stands (st : DoorState) (on : Bool) : Prop :=
          t.door d = { st := st, holder := on, contact := handedState t (.door d) }
        (held → handedState t (.door d) = true → stands .ready true) ∧
        (held → handedState t (.door d) = false → stands .held true) ∧
        (¬ held → doorLevel t d = .fire) ∧
        (¬ held → handedState t (.door d) = true → stands .closed false) ∧
        (¬ held → handedState t (.door d) = false →
          (free → stands (.released s.time (s.time + BitVec.ofNat 32 (e.closeTimeout * 1000))) false) ∧
          (¬ free → stands (.waitFan .level) true))) ∧
      (∀ z, t.zone z =
        let level := if (s.zoneEntry z).enabled then (causesOf t z).top else .normal
        { causes := causesOf t z, current := level, latched := level, ack := false, silenced := false, hush := .normal }) ∧
      (∀ i,
        let on : Prop := (s.stationEntry i).enabled = true ∧
          (s.trunkEntry (s.stationEntry i).pos.trunk).enabled = true ∧ s.cfs.strap = false
        (¬ on → t.station i = s.station i) ∧
        (on → (s.station i).loop = none → t.station i = { s.station i with
          scan := .duty s.time true (s.time + BitVec.ofNat 32 s.globalEntry.dutyInterval) }) ∧
        ∀ c, on → (s.station i).loop = some c → t.station i = { s.station i with scan := .fault c } ∧
          (t.rpq.bank.station[i]).faults = (s.rpq.bank.station[i]).faults + 1) ∧
      (∀ i, (t.siren i).load = (s.siren i).load ∧ (t.siren i).wanted = wantedPattern t i ∧
        (t.siren i).fault = if (s.sirenEntry i).enabled then (s.siren i).load else none) ∧
      (s.cfs.loadInvalid = true → s.rpq.queue = [] →
        { time := s.time, urgent := true, body := .fault .storeInvalid true } ∈ t.rpq.queue) ∧
      t.spa = { s.spa with
        flow := handedState t .flow
        unexpExpiry := if handedState t .flow then some (s.time + BitVec.ofNat 32 (s.supplyEntry.unexpTime * 1000)) else none } ∧
      t.trc = s.trc ∧ t.afm = s.afm ∧ t.lnk = s.lnk ∧ t.dfe.viewSet = s.dfe.viewSet ∧
      t.rpq.bank.valve = s.rpq.bank.valve ∧ t.pending = s.pending ∧ t.time = s.time ∧ t.draws = s.draws

/-! ### The panel link -/

/-- The table of R172, row by row, a frame that completes being taken as the command it spells (R174); and the gap
deadline of R173: the frame in progress is abandoned when the counter is later than its last byte plus 20 ms. A BODY
that holds more than LEN bytes, which no run reaches, completes like a full one: the model's choice (log entry 29). -/
def Obligations.ReceiverTakesCharactersAndDeadlines : Prop :=
  (∀ (s : State) (b : Byte),
    (s.lnk.rx = .hunt → b = 0xA5 → exec (.characterReceived b) s = .next { s with lnk := { s.lnk with rx := .length s.time } }) ∧
    (s.lnk.rx = .hunt → b ≠ 0xA5 → exec (.characterReceived b) s = .next s) ∧
    (∀ t, s.lnk.rx = .length t → 2 ≤ b.toNat → b.toNat ≤ 242 →
      exec (.characterReceived b) s = .next { s with lnk := { s.lnk with rx := .body b.toNat [] s.time } }) ∧
    (∀ t, s.lnk.rx = .length t → (b.toNat ≤ 1 ∨ 243 ≤ b.toNat) →
      exec (.characterReceived b) s = .next { s with lnk := { s.lnk with rx := .hunt } }) ∧
    (∀ len bytes t, s.lnk.rx = .body len bytes t → bytes.length < len →
      exec (.characterReceived b) s = .next { s with lnk := { s.lnk with rx := .body len (bytes ++ [b]) s.time } }) ∧
    (∀ len bytes t, s.lnk.rx = .body len bytes t → len ≤ bytes.length →
      ∃ u, exec (.characterReceived b) s = .next u ∧ u.lnk.rx = .hunt) ∧
    ∀ kind tag payload t, s.lnk.rx = .body (payload.length + 2) (kind :: tag :: payload) t →
      (b ≠ frameCrc (kind :: tag :: payload) →
        exec (.characterReceived b) s = exec (.frameDiscard (kind :: tag :: payload) b) s) ∧
      (b = frameCrc (kind :: tag :: payload) → readKind kind = none →
        exec (.characterReceived b) s = exec (.unknownRequest kind tag payload) s) ∧
      ∀ k c, b = frameCrc (kind :: tag :: payload) → readKind kind = some k → requestCommand k tag payload = some c →
        exec (.characterReceived b) s = exec c s) ∧
  ∀ (s : State) (last : Time) (len : Nat) (bytes : List Byte), s.lnk.rx = .length last ∨ s.lnk.rx = .body len bytes last →
    0 < (s.time - (last + 20)).toNat → (s.time - (last + 20)).toNat < 2 ^ 31 →
      exec .gapDeadline s = .next { s with lnk := { s.lnk with rx := .hunt } }

/-- A break and a framing error return the receiver to HUNT, and a bad LEN byte abandons a frame in LENGTH; an event
whose condition does not hold changes nothing, the gap deadline among them (the model's choice, log entry 4). A
complete frame is discarded and counted while a reply is being sent, and discarded without a count when its CRC
fails. That one which completes while a RESTART is due, or the unknown request it spells, is dropped without a count
is the model's choice (log entry 18, on R181). A good one with a KIND outside the catalogue is answered UNKNOWN. The
transmitter is freed from the line time of the reply on, cut to whole milliseconds, and not before: the model's
choice, log entry 17. -/
def Obligations.LinkEventsAndDiscardedFrames : Prop :=
  ∀ s : State,
    let hunted : State := { s with lnk := { s.lnk with rx := .hunt } }
    let counted : State :=
      { s with lnk := { s.lnk with rx := .hunt, discarded := if s.lnk.discarded < 65535 then s.lnk.discarded + 1 else s.lnk.discarded } }
    exec .lineBreak s = .next hunted ∧ exec .framingError s = .next hunted ∧
    ((∀ last, s.lnk.rx = .length last ∨ (∃ len bytes, s.lnk.rx = .body len bytes last) →
        (s.time - (last + 20)).toNat = 0 ∨ 2 ^ 31 ≤ (s.time - (last + 20)).toNat) → exec .gapDeadline s = .next s) ∧
    (∀ (t : Time) (b : Byte), s.lnk.rx = .length t → (b.toNat ≤ 1 ∨ 243 ≤ b.toNat) → exec (.badLengthByte b) s = .next hunted) ∧
    (∀ (t : Time) (b : Byte), s.lnk.rx = .length t → 2 ≤ b.toNat → b.toNat ≤ 242 → exec (.badLengthByte b) s = .next s) ∧
    (∀ b : Byte, (∀ t, s.lnk.rx ≠ .length t) → exec (.badLengthByte b) s = .next s) ∧
    (∀ body crc, s.lnk.tx ≠ none → exec (.frameDiscard body crc) s = .next counted) ∧
    (∀ body crc, s.lnk.tx = none → crc ≠ frameCrc body →
      exec (.frameDiscard body crc) s = .next { s with lnk := { s.lnk with rx := .hunt } }) ∧
    (∀ body, s.lnk.tx = none → exec (.frameDiscard body (frameCrc body)) s =
      .next (if s.lnk.restartPending then hunted else s)) ∧
    (∀ kind tag payload, kind.toNat ∉ catalogueCodes → s.lnk.tx ≠ none → exec (.unknownRequest kind tag payload) s = .next counted) ∧
    (∀ kind tag payload, kind.toNat ∉ catalogueCodes → s.lnk.tx = none → s.lnk.restartPending = true →
      exec (.unknownRequest kind tag payload) s = .next hunted) ∧
    (∀ kind tag payload, kind.toNat ∉ catalogueCodes → s.lnk.tx = none → s.lnk.restartPending = false →
      exec (.unknownRequest kind tag payload) s = .next { s with lnk :=
        { s.lnk with
          rx := .hunt
          tx := some { kind := kind ||| 0x80, tag := tag, result := .unknown, payload := [], started := s.time } } }) ∧
    (∀ r, s.lnk.tx = some r →
      let sent : Bool := reached s.time (r.started + BitVec.ofNat 32 ((r.payload.length + 6) * 10 * 1000 / 115200))
      (sent = true → exec .replySent s = .next { s with lnk := { s.lnk with tx := none } }) ∧
      (sent = false → exec .replySent s = .next s))

/-- A frame delivered byte by byte to a receiver in HUNT is the request command it spells, for every
kind, tag and payload a frame can carry; a KIND outside the catalogue is the UNKNOWN command, and a TWRITE that
names no table, which no command spells, is answered LENGTH, MODE or RANGE in that order. -/
def Obligations.FrameByBytesIsItsCommand : Prop :=
  ∀ (kind tag : Byte) (payload : List Byte) (s : State), s.lnk.rx = .hunt → payload.length ≤ 240 →
    let body := kind :: tag :: payload
    let line := (0xA5 :: byte body.length :: body) ++ [frameCrc body]
    (∀ k c, readKind kind = some k → requestCommand k tag payload = some c → execAll (line.map .characterReceived) s = exec c s) ∧
    (readKind kind = none → execAll (line.map .characterReceived) s = exec (.unknownRequest kind tag payload) s) ∧
    (∀ k, readKind kind = some k → requestCommand k tag payload = none → s.lnk.tx = none → s.lnk.restartPending = false →
      execAll (line.map .characterReceived) s = .next
        (answered .twrite tag (if k.lengthOk payload then if s.cfs.mode = .configure then .range else .mode else .length) [] s)) ∧
    ∀ crc, crc ≠ frameCrc body →
      execAll (((0xA5 :: byte body.length :: body) ++ [crc]).map .characterReceived) s = exec (.frameDiscard body crc) s

/-- The CRC of R171: the register of x^8 + x^2 + x + 1 started at 0xFF over the bits from LEN to the
last payload byte, most significant bit of each byte first; a request that carries another is dropped, the reply
carries the same check, and a change confined to one byte changes the check. -/
def Obligations.FrameCheckIsTheBitwiseCrc : Prop :=
  (∀ body : List Byte, frameCrc body = crcOfBits ((byte body.length :: body).flatMap bitsOf)) ∧
  (∀ r : Reply, r.frame =
    let covered := [byte (r.payload.length + 3), r.kind, r.tag, r.result.code] ++ r.payload
    0xA5 :: (covered ++ [crcOfBits (covered.flatMap bitsOf)])) ∧
  (∀ (s : State) (body : List Byte) (last : Time) (crc : Byte), s.lnk.rx = .body body.length body last → s.lnk.tx = none →
    crc ≠ crcOfBits ((byte body.length :: body).flatMap bitsOf) →
      exec (.characterReceived crc) s = .next { s with lnk := { s.lnk with rx := .hunt } }) ∧
  ∀ (a b : List Byte) (x y : Byte), crc8 (a ++ x :: b) = crc8 (a ++ y :: b) → x = y

/-- Before a request reaches its owner: discarded and counted while a reply is being sent, abandoned without a
reply once a RESTART is due (the model's choice, log entry 18, on R181: its frame counts as in progress at the RESTART),
LENGTH for a
payload length its kind does not allow, MODE in a part mode R176 does not list, with nothing else
changed; otherwise its owner answers, and never MODE. -/
def Obligations.RequestsAreGatedBeforeTheirOwner : Prop :=
  ∀ (k : ReqKind) (tag : Byte) (payload : List Byte) (c : Instr) (s : State), requestCommand k tag payload = some c →
    let always := [ReqKind.id, .stat]
    let setting := [ReqKind.cfgout, .twrite, .store, .rstrt]
    let served : Prop := k ∈ always ∨ (k = .cfgin ∧ s.cfs.mode = .armed) ∨ (k ∈ setting ∧ s.cfs.mode = .configure) ∨
      (k ∉ always ∧ k ≠ .cfgin ∧ k ∉ setting ∧ s.cfs.mode ≠ .start)
    (s.lnk.tx ≠ none → exec c s = .next
      { s with lnk := { s.lnk with rx := .hunt, discarded := if s.lnk.discarded < 65535 then s.lnk.discarded + 1 else s.lnk.discarded } }) ∧
    (s.lnk.tx = none → s.lnk.restartPending = true → exec c s = .next { s with lnk := { s.lnk with rx := .hunt } }) ∧
    (s.lnk.tx = none → s.lnk.restartPending = false → k.lengthOk payload = false → exec c s = .next (answered k tag .length [] s)) ∧
    (s.lnk.tx = none → s.lnk.restartPending = false → k.lengthOk payload = true → ¬ served → exec c s = .next (answered k tag .mode [] s)) ∧
    (s.lnk.tx = none → s.lnk.restartPending = false → k.lengthOk payload = true → served →
      ∃ t r p, exec c s = .next t ∧ r ≠ .mode ∧ r ≠ .length ∧ r ≠ .unknown ∧ t.lnk.tx = some (replyAt k tag r p s) ∧ t.lnk.rx = .hunt)

/-! ### Requests that read -/

/-- ID, INPS and TRKS change nothing but the link: ID carries the identity of the part and its capacities,
INPS the raw, debounced and active states of the 32 inputs, four bytes each, input `i` as bit `i`; TRKS
carries the number of tracks, the position asked for and up to eight tracks from it, oldest first, every field
of each, and answers RANGE above position 31. -/
def Obligations.IdentityInputAndTrackReplies : Prop :=
  (∀ (tag : Byte) (s : State), s.lnk.tx = none → s.lnk.restartPending = false →
    exec (.idRequest tag []) s =
      .next (answered .id tag .ok [0x41, 0x2C, 0x16, 0x07, 3, 4, 16, 16, 12, 1, 24, 16, 32, 16, 8, 8, 1, 64, 32] s) ∧
    (s.cfs.mode ≠ .start → ∃ p, exec (.inps tag []) s = .next (answered .inps tag .ok p s) ∧ p.length = 12 ∧
      ∀ i : Fin 32, (p.getD (i.val / 8) 0).getLsbD (i.val % 8) = (s.input i).raw ∧
        (p.getD (4 + i.val / 8) 0).getLsbD (i.val % 8) = (s.input i).debounced ∧
        (p.getD (8 + i.val / 8) 0).getLsbD (i.val % 8) = (s.input i).active)) ∧
  ∀ (tag b : Byte) (s : State), Reaches .trks [b] s →
    (31 < b.toNat → exec (.trks tag [b]) s = .next (answered .trks tag .range [] s)) ∧
    (b.toNat ≤ 31 → ∃ rows : List (List Byte),
      exec (.trks tag [b]) s = .next (answered .trks tag .ok ([byte s.trc.tracks.length, b] ++ rows.flatten) s) ∧
      rows.length = min 8 (s.trc.tracks.length - b.toNat) ∧
      ∀ n k, n < 8 → s.trc.tracks[b.toNat + n]? = some k → rows[n]? = some
        ([k.id, byte k.trunk.val, byte k.origin.val] ++ timeBytes k.originTime ++ [byte k.last.val] ++ timeBytes k.lastTime ++
          [byte k.peak, byte (k.peak / 256), byte k.sightings] ++
          (match k.next with
            | none => [255, 0, 0, 0, 0, 0, 0, 0, 0]
            | some e => [byte e.station.val] ++ timeBytes e.early ++ timeBytes e.late) ++
          [optByte k.valve, k.outcome.code, flagByte k.sprayClosed, byte k.passes, flagByte k.tagged]))

/-- STAT is served in every part mode and changes nothing but the link; the status block has 182 bytes,
laid out as R180 lists its fields, every byte of it. That the zone flags are shown clear in START is read from
R136 by inference (log entry 9). -/
def Obligations.StatusReplyLayout : Prop :=
  ∀ (tag : Byte) (s : State), s.lnk.tx = none → s.lnk.restartPending = false →
    let stage (t : Fin 4) : Nat :=
      match (s.air t).stage with
      | .clear => 0
      | .hold => 1
      | .fallback => 2
    let load (i : Fin 8) : Nat :=
      match (s.siren i).fault with
      | none => 0
      | some .openLoad => 1
      | some .shortLoad => 2
    ∃ p, exec (.stat tag []) s = .next (answered .stat tag .ok p s) ∧ p.length = 182 ∧
      p.take 2 = [s.cfs.mode.code, flagByte s.cfs.key] ∧
      (∀ t : Fin 4, (p.drop (2 + 5 * t.val)).take 5 =
        [(s.trunk t).prot.phase.code, (s.trunk t).prot.cause.code,
          byte ((if (s.trunkEntry t).enabled then 1 else 0) + (if (s.air t).stalled then 2 else 0) +
            (if (s.trunk t).fanQuiet then 4 else 0) + (if (s.trunk t).survivor then 8 else 0)),
          byte (s.air t).vf, byte ((s.air t).vf / 256)]) ∧
      (∀ i : Fin 16, (p.drop (22 + 2 * i.val)).take 2 = [(s.station i).scan.code, (s.station i).lastResult.code]) ∧
      (∀ z : Fin 16, p.getD (54 + 5 * z.val) 0 = (s.zone z).latched.code ∧ p.getD (55 + 5 * z.val) 0 = (s.zone z).current.code ∧
        p.getD (56 + 5 * z.val) 0 = byte ((if s.cfs.mode ≠ .start ∧ (s.zoneEntry z).enabled = true then 1 else 0) +
          (if s.cfs.mode ≠ .start ∧ (s.zone z).ack = true then 2 else 0) +
          (if s.cfs.mode ≠ .start ∧ (s.zone z).silenced = true then 4 else 0) + 8 * (s.zoneEntry z).kind.code.toNat) ∧
        p.getD (57 + 5 * z.val) 0 = (s.zone z).hush.code ∧ p.getD (58 + 5 * z.val) 0 = (s.zone z).causes.code) ∧
      (∀ d : Fin 16, p.getD (134 + d.val) 0 = (s.door d).st.phase.code) ∧
      (∀ i : Fin 8, p.getD (150 + 2 * i.val) 0 = (s.siren i).st.phase.code ∧
        p.getD (151 + 2 * i.val) 0 = optByte (s.siren i).st.pattern) ∧
      (p.drop 166).take 5 =
        [byte s.rpq.queue.length, byte s.rpq.dropped, s.spa.sampler.code, s.cfs.storeState.code, flagByte s.cfs.storeLock] ∧
      (∀ i : Fin 16, (p.getD (171 + i.val / 8) 0).getLsbD (i.val % 8) = true ↔ ∃ c, (s.station i).scan = .fault c) ∧
      p.getD 173 0 = byte (stage 0 + 4 * stage 1 + 16 * stage 2 + 64 * stage 3) ∧
      p.getD 174 0 = byte ((if (s.trunk 0).fanFault then 1 else 0) + (if (s.trunk 1).fanFault then 2 else 0) +
        (if (s.trunk 2).fanFault then 4 else 0) + (if (s.trunk 3).fanFault then 8 else 0)) ∧
      p.getD 175 0 = byte ((if s.spa.supplyFault then 1 else 0) + (if s.spa.unexpRaised then 2 else 0)) ∧
      (∀ d : Fin 16, (p.getD (176 + d.val / 8) 0).getLsbD (d.val % 8) = true ↔ (s.door d).st = .blocked) ∧
      (p.drop 178).take 2 = [byte (load 0 + 4 * load 1 + 16 * load 2 + 64 * load 3),
        byte (load 4 + 4 * load 5 + 16 * load 6 + 64 * load 7)] ∧
      (p.drop 180).take 2 = [byte s.lnk.discarded, byte (s.lnk.discarded / 256)]

/-- TREAD carries the table id, the index and the entry as it is written, for every entry of every
table, and answers RANGE outside them; nothing but the link changes. -/
def Obligations.TableReadReplies : Prop :=
  ∀ (tag table index : Byte) (s : State), Reaches .tread [table, index] s →
    let gives (e : List Byte) : Prop := exec (.tread tag [table, index]) s = .next (answered .tread tag .ok ([table, index] ++ e) s)
    (∀ i : Fin 4, table = 0 → index.toNat = i.val → gives (s.trunkEntry i).encode) ∧
    (∀ i : Fin 16, table = 1 → index.toNat = i.val → gives (s.branchEntry i).encode) ∧
    (∀ i : Fin 16, table = 2 → index.toNat = i.val → gives (s.stationEntry i).encode) ∧
    (∀ i : Fin 12, table = 3 → index.toNat = i.val → gives (s.valveEntry i).encode) ∧
    (table = 4 → index = 0 → gives s.supplyEntry.encode) ∧
    (∀ (t : Fin 4) (k : Fin 6), table = 5 → index.toNat = t.val * 6 + k.val → gives (s.tripEntry t k).encode) ∧
    (∀ i : Fin 16, table = 6 → index.toNat = i.val → gives (s.zoneEntry i).encode) ∧
    (∀ i : Fin 32, table = 7 → index.toNat = i.val → gives (s.inputEntry i).encode) ∧
    (∀ i : Fin 16, table = 8 → index.toNat = i.val → gives (s.doorEntry i).encode) ∧
    (∀ i : Fin 8, table = 9 → index.toNat = i.val → gives (s.sirenEntry i).encode) ∧
    (∀ i : Fin 8, table = 10 → index.toNat = i.val → gives (s.patternEntry i).encode) ∧
    (table = 11 → index = 0 → gives s.globalEntry.encode) ∧
    (11 < table.toNat ∨ [4, 16, 16, 12, 1, 24, 16, 32, 16, 8, 8, 1].getD table.toNat 0 ≤ index.toNat →
      exec (.tread tag [table, index]) s = .next (answered .tread tag .range [] s))

/-- SMPL carries the sampler's state, its counter, its modulus and the sample, 30 bytes of 0 unless one is valid,
and otherwise the request, the grant, the marks and the outcome field by field (R179); a rearm of a valid sampler
makes it ARMED with the two low bits of the time as its counter, and a rearm of any other changes nothing; a flag
above 1 is RANGE. -/
def Obligations.SampleReadAndRearm : Prop :=
  ∀ (tag b : Byte) (s : State), Reaches .smpl [b] s →
    let head := [s.spa.sampler.code, byte s.spa.samplerCount, byte (s.spa.samplerCount / 256), byte s.globalEntry.samplerN,
      byte (s.globalEntry.samplerN / 256)]
    (1 < b.toNat → exec (.smpl tag [b]) s = .next (answered .smpl tag .range [] s)) ∧
    (b.toNat ≤ 1 → (∀ x, s.spa.sampler ≠ .valid x) →
      exec (.smpl tag [b]) s = .next (answered .smpl tag .ok (head ++ List.replicate 30 0) s)) ∧
    (∀ x, s.spa.sampler = .valid x → x.encode.length = 30 ∧
      x.encode =
        [x.request.track, byte x.request.trunk.val, byte x.request.station.val, byte x.request.valve.val] ++
          timeBytes x.request.detected ++
          [byte x.request.transit, byte (x.request.transit / 256), byte x.request.early, byte (x.request.early / 256)] ++
          timeBytes x.request.openTime ++ timeBytes x.grantTime ++ timeBytes x.closeTime ++
          [byte ((if x.request.lateStart then 1 else 0) + (if x.late then 2 else 0) + (if x.missed then 4 else 0) +
            (if x.request.merged then 8 else 0)), x.outcome.code] ++ timeBytes x.captured ∧
      (b = 0 → exec (.smpl tag [b]) s = .next (answered .smpl tag .ok (head ++ x.encode) s)) ∧
      (b = 1 → exec (.smpl tag [b]) s = .next
        { answered .smpl tag .ok (head ++ x.encode) s with
          spa := { s.spa with sampler := .armed, samplerCount := s.time.toNat % 4 } }))

/-- VIEW shows one station a request: with a mask the lowest enabled member, from which the rotation
goes on; without one the next enabled member above the view position, and the lowest after the last;
a set without an enabled member is RANGE and changes nothing. -/
def Obligations.ViewRotation : Prop :=
  ∀ (tag : Byte) (s : State), s.lnk.tx = none → s.lnk.restartPending = false → s.cfs.mode ≠ .start →
    let member (set : BitVec 16) (i : Fin 16) : Prop := set.getLsbD i.val = true ∧ (s.stationEntry i).enabled = true
    let shows (i : Fin 16) : List Byte :=
      [byte i.val, (s.station i).scan.code, byte (s.station i).lastSample, byte ((s.station i).lastSample / 256)] ++
        timeBytes (s.station i).lastSampleTime
    (∀ lo hi : Byte,
      ((∀ i, ¬ member (hi ++ lo) i) → exec (.viewMask tag [lo, hi]) s = .next (answered .view tag .range [] s)) ∧
      (∀ i, member (hi ++ lo) i → (∀ j, j < i → ¬ member (hi ++ lo) j) → exec (.viewMask tag [lo, hi]) s = .next
        { answered .view tag .ok (shows i) s with dfe := { s.dfe with viewSet := hi ++ lo, viewPos := some i } })) ∧
    ((∀ i, ¬ member s.dfe.viewSet i) → exec (.viewNext tag) s = .next (answered .view tag .range [] s)) ∧
    (∀ i, member s.dfe.viewSet i →
      ((∃ p, s.dfe.viewPos = some p ∧ p < i ∧ ∀ j, p < j → j < i → ¬ member s.dfe.viewSet j) ∨
        ((∀ j, j < i → ¬ member s.dfe.viewSet j) ∧ ∀ p j, s.dfe.viewPos = some p → p < j → ¬ member s.dfe.viewSet j)) →
      exec (.viewNext tag) s = .next { answered .view tag .ok (shows i) s with dfe := { s.dfe with viewPos := some i } })

/-! ### Reports and counters -/

/-- CNTR carries a group as it stands and clears that group alone when asked; a group above 2, an index
outside it or a flag above 1 is RANGE and clears nothing. -/
def Obligations.CounterSnapshotAndClear : Prop :=
  ∀ (tag g x f : Byte) (s : State), Reaches .cntr [g, x, f] s →
    let gives (counters : List Count) (cleared : Bank) : Prop :=
      exec (.cntr tag [g, x, f]) s = .next
        { answered .cntr tag .ok ([g, x] ++ counters.flatMap (fun c => leBytes 4 c.toNat)) s with
          rpq := { s.rpq with bank := if f = 1 then cleared else s.rpq.bank } }
    let noStation : StationCounters := { band0 := 0, band1 := 0, band2 := 0, band3 := 0, standing := 0, faults := 0 }
    let noValve : ValveCounters := { opens := 0, late := 0, missed := 0, tests := 0 }
    let noTrunk : TrunkCounters :=
      { newTracks := 0, extinguished := 0, survived := 0, vanished := 0, unconfirmed := 0, discarded := 0, haltsByTrip := 0 }
    (∀ i : Fin 16, g = 0 → x.toNat = i.val → f.toNat ≤ 1 →
      let c := s.rpq.bank.station[i]
      gives [c.band0, c.band1, c.band2, c.band3, c.standing, c.faults]
        { s.rpq.bank with station := s.rpq.bank.station.set i noStation }) ∧
    (∀ v : Fin 12, g = 1 → x.toNat = v.val → f.toNat ≤ 1 →
      let c := s.rpq.bank.valve[v]
      gives [c.opens, c.late, c.missed, c.tests]
        { s.rpq.bank with valve := s.rpq.bank.valve.set v noValve }) ∧
    (∀ t : Fin 4, g = 2 → x.toNat = t.val → f.toNat ≤ 1 →
      let c := s.rpq.bank.trunk[t]
      gives [c.newTracks, c.extinguished, c.survived, c.vanished, c.unconfirmed, c.discarded, c.haltsByTrip]
        { s.rpq.bank with trunk := s.rpq.bank.trunk.set t noTrunk }) ∧
    (2 < g.toNat ∨ [16, 12, 4].getD g.toNat 0 ≤ x.toNat ∨ 1 < f.toNat →
      exec (.cntr tag [g, x, f]) s = .next (answered .cntr tag .range [] s))

/-- FETCH removes from the head the longest run of at most 16 records and 237 bytes and carries them
with the dropped count, which it zeroes; the hold timer stops with an emptied queue and starts again
otherwise, and ATTN is formed anew. The hold timer's expiry raises ATTN while records wait.
A command whose condition does not hold changes nothing: the model's choice, log entry 4. -/
def Obligations.FetchedRecordsAndHoldTimer : Prop :=
  (∀ (tag : Byte) (s : State), Reaches .fetch [] s →
    ∃ taken left attn, s.rpq.queue = taken ++ left ∧ taken.length ≤ 16 ∧ (taken.map Record.size).sum ≤ 237 ∧
      (∀ r rest, left = r :: rest → taken.length = 16 ∨ 237 < (taken.map Record.size).sum + r.size) ∧
      exec (.fetch tag []) s = .next
        { answered .fetch tag .ok ([byte taken.length, byte s.rpq.dropped] ++ taken.flatMap Record.encode) s with
          rpq := { s.rpq with
            queue := left, dropped := 0, attn := attn
            holdTimer := if left = [] then .stopped
              else if s.globalEntry.holdTime = 0 then .expired
              else .running s.time (s.time + BitVec.ofNat 32 s.globalEntry.holdTime) } } ∧
      (attn = true ↔ left ≠ [] ∧ ((∃ r ∈ left, r.urgent = true) ∨ s.globalEntry.fillMark ≤ left.length ∨ s.globalEntry.holdTime = 0))) ∧
  ∀ s : State,
    (∀ began e, s.rpq.holdTimer = .running began e → reached s.time e = true →
      exec .holdTimerExpiry s = .next { s with rpq := { s.rpq with holdTimer := .expired, attn := !s.rpq.queue.isEmpty } }) ∧
    ((∀ began e, s.rpq.holdTimer = .running began e → reached s.time e = false) → exec .holdTimerExpiry s = .next s)

/-- The records a sequence of appends leaves: in order at the tail while there is room, urgent as R184
says, with an ordinary record lost first and the lost ones counted; each record has the size its kind gives, and
is carried as its kind, its length, its time and the fields R183 lists. -/
def Obligations.AppendedRecordsQueueAndOverflow : Prop :=
  (∀ (b : Body) (s : State), ∃ x : Record, x.time = s.time ∧ x.body = b ∧
    (x.urgent = true ↔
      (∃ t old c, b = .trunkState t old .stopping c) ∨ (∃ t old d, b = .trunkState t old .halt (.trip d)) ∨
      (∃ t old, b = .trunkState t old .halt .gateFault) ∨ (∃ id t n p, b = .trackEnd id t .survived n p) ∨
      (∃ v a l m x y, b = .spray v .missed a l m x y) ∨ ∃ k, b = .fault k true) ∧
    (s.rpq.queue.length < 64 → (append b s).rpq.queue = s.rpq.queue ++ [x] ∧ (append b s).rpq.dropped = s.rpq.dropped) ∧
    (∀ before r behind, 64 ≤ s.rpq.queue.length → s.rpq.queue = before ++ r :: behind → r.urgent = false →
      (∀ q ∈ before, q.urgent = true) → (append b s).rpq.queue = before ++ behind ++ [x]) ∧
    (64 ≤ s.rpq.queue.length → (∀ q ∈ s.rpq.queue, q.urgent = true) → (append b s).rpq.queue = s.rpq.queue) ∧
    (64 ≤ s.rpq.queue.length →
      (append b s).rpq.dropped = if s.rpq.dropped < 255 then s.rpq.dropped + 1 else s.rpq.dropped) ∧
    (append b s).rpq.bank = s.rpq.bank ∧
    (append b s).rpq.holdTimer =
      (if s.rpq.queue = [] then
        if s.globalEntry.holdTime = 0 then .expired else .running s.time (s.time + BitVec.ofNat 32 s.globalEntry.holdTime)
      else s.rpq.holdTimer)) ∧
  (∀ b : Body, b.encode.length =
    [0, 10, 5, 12, 4, 4, 2, 3, 4, 2, 3, 0, 1].getD b.kindCode.toNat 0 ∧ 1 ≤ b.kindCode.toNat ∧ b.kindCode.toNat ≤ 12) ∧
  (∀ r : Record, r.size = 6 + r.body.encode.length ∧
    r.encode = [r.body.kindCode, byte r.body.encode.length] ++ timeBytes r.time ++ r.body.encode) ∧
  (∀ b : Body,
    let fault (k : FaultKind) : List Byte :=
      match k with
      | .velocity t => [0, byte t.val, 1]
      | .station i .openLoop => [1, byte i.val, 2]
      | .station i .shortLoop => [1, byte i.val, 3]
      | .noFlow => [2, 0, 4]
      | .flowUnexpected => [2, 0, 5]
      | .fan t => [3, byte t.val, 6]
      | .door d => [4, byte d.val, 7]
      | .siren i .openLoad => [5, byte i.val, 8]
      | .siren i .shortLoad => [5, byte i.val, 9]
      | .configInvalid => [6, 0, 10]
      | .storeInvalid => [6, 0, 11]
    let tested (k : TestKind) : List Byte :=
      match k with
      | .head i => [0, byte i.val]
      | .spray v => [1, byte v.val]
      | .siren i => [2, byte i.val]
    b.encode =
      match b with
      | .detect i t peak len id =>
        [byte i.val] ++ timeBytes t ++ [byte peak, byte (peak / 256), byte len, byte (len / 256), id]
      | .trackEnd id t o sightings passes => [id, byte t.val, o.code, byte sightings, byte passes]
      | .spray v ev ls lt merged opens closes =>
        [byte v.val, ev.code, byte ((if ls then 1 else 0) + (if lt then 2 else 0)), byte merged] ++ timeBytes opens ++ timeBytes closes
      | .trunkState t old new c => [byte t.val, old.code, new.code, c.code]
      | .zoneLevel z l c k => [byte z.val, l.code, c.code, k.code]
      | .doorState d p => [byte d.val, p.code]
      | .sirenState i p n => [byte i.val, p.code, optByte n]
      | .fault k set => fault k ++ [if set then 1 else 0]
      | .input i a => [byte i.val, if a then 1 else 0]
      | .testResult k r => tested k ++ [r.code]
      | .sampleReady => []
      | .storeDone pass => [if pass then 2 else 3]) ∧
  ∀ (z : Fin 16) (l c : Level) (k : CauseSet) (s : State), s.rpq.queue.length < 64 →
    (appendRise (.zoneLevel z l c k) s).rpq.queue =
      s.rpq.queue ++ [{ time := s.time, urgent := l == .alert || l == .fire, body := .zoneLevel z l c k }]

/-! ### Zones -/

/-- ZACK of one enabled zone: its latched level becomes its current level and it is acknowledged; at
NORMAL its hush ends, and a hush above the new level comes down to it; call points at their quiet level
lose their latch; survivor flags of its trunks without a track clear. ZACK of all does so for the latches
and flags of every enabled zone, and, while every trunk stands in HALT and so cannot raise a level after its zone was
acknowledged, for their levels and hushes. A zone disabled or out of range is RANGE. -/
def Obligations.AcknowledgedZones : Prop :=
  ∀ (tag b : Byte) (s : State), Reaches .zack [b] s →
    let clearable (i : Fin 32) (z : Fin 16) : Prop :=
      (s.inputEntry i).role = .call z ∧ (s.inputEntry i).sense.isEdge = true ∧ (s.input i).latch = true ∧
        (s.input i).debounced ≠ (s.inputEntry i).sense.operated
    let frame (t : State) : Prop := t.lnk = replied .zack tag .ok [] s ∧ SameBelow { s.withSurvivors t with fiu := t.fiu, lnk := t.lnk } t
    (∀ z : Fin 16, b.toNat = z.val → (s.zoneEntry z).enabled = false → exec (.zack tag [b]) s = .next (answered .zack tag .range [] s)) ∧
    (16 ≤ b.toNat → b ≠ 255 → exec (.zack tag [b]) s = .next (answered .zack tag .range [] s)) ∧
    (∀ z : Fin 16, b.toNat = z.val → (s.zoneEntry z).enabled = true →
      ∃ t, exec (.zack tag [b]) s = .next t ∧ frame t ∧
        (t.zone z).latched = (t.zone z).current ∧ (t.zone z).ack = true ∧
        ((t.zone z).current = .normal → (t.zone z).silenced = false ∧ (t.zone z).hush = .normal) ∧
        ((t.zone z).silenced = true → (t.zone z).hush.rank ≤ (t.zone z).current.rank) ∧
        (∀ i, clearable i z → t.input i = { s.input i with latch := false, active := false }) ∧
        (∀ i, ¬ clearable i z → t.input i = s.input i) ∧
        ∀ k, (t.trunk k).survivor =
          ((s.trunk k).survivor && !((s.trunkEntry k).enabled && decide ((s.trunkEntry k).filterZone = z) && !hasTrack s k))) ∧
    (b = 255 →
      ∃ t, exec (.zack tag [b]) s = .next t ∧ frame t ∧
        (∀ i z, (s.zoneEntry z).enabled = true → clearable i z → t.input i = { s.input i with latch := false, active := false }) ∧
        (∀ i, (∀ z, (s.zoneEntry z).enabled = true → ¬ clearable i z) → t.input i = s.input i) ∧
        ((∀ k, ∃ c, (s.trunk k).prot = .halt c) → ∀ z, ((s.zoneEntry z).enabled = false → t.zone z = s.zone z) ∧
          ((s.zoneEntry z).enabled = true →
            (t.zone z).current = (t.zone z).causes.top ∧ (t.zone z).latched = (t.zone z).current ∧ (t.zone z).ack = true ∧
            ((t.zone z).current = .normal → (t.zone z).silenced = false ∧ (t.zone z).hush = .normal) ∧
            ((t.zone z).silenced = true → (s.zone z).silenced = true ∧ (t.zone z).hush.rank ≤ (t.zone z).current.rank ∧
              (t.zone z).hush.rank ≤ (s.zone z).hush.rank))) ∧
        ∀ k, (t.trunk k).survivor =
          ((s.trunk k).survivor && !((s.trunkEntry k).enabled && (s.zoneEntry (s.trunkEntry k).filterZone).enabled && !hasTrack s k)))

/-- HUSH silences a zone at its latched level and SOUND ends a hush; each reaches the sirens alone, whose
wanted patterns are formed anew where they cover the zone. HUSH of one zone at NORMAL is REFUSED, SOUND of
a zone that is not silenced changes nothing, and with "all" both take every enabled zone they can. -/
def Obligations.HushedAndSoundedZones : Prop :=
  ∀ (tag b : Byte) (s : State),
    let named (z : Fin 16) : Prop := (s.zoneEntry z).enabled = true ∧ (b = 255 ∨ b.toNat = z.val)
    let hushed (z : Fin 16) : Prop := named z ∧ (s.zone z).latched ≠ .normal
    let sounded (z : Fin 16) : Prop := named z ∧ (s.zone z).silenced = true
    let reached (taken : Fin 16 → Prop) (t : State) : Prop := t.rpq.bank = s.rpq.bank ∧
      ∀ i, ((∃ z, taken z ∧ (s.sirenEntry i).zones.getLsbD z.val = true) → (s.sirenEntry i).enabled = true →
          (t.siren i).wanted = wantedPattern t i) ∧
        (((∀ z, taken z → (s.sirenEntry i).zones.getLsbD z.val = false) ∨ (s.sirenEntry i).enabled = false) →
          (t.siren i).wanted = (s.siren i).wanted)
    (Reaches .hush [b] s →
      ((b ≠ 255 ∧ ∀ z, ¬ named z) → exec (.hush tag [b]) s = .next (answered .hush tag .range [] s)) ∧
      ((b ≠ 255 ∧ ∃ z, named z ∧ ¬ hushed z) → exec (.hush tag [b]) s = .next (answered .hush tag .refused [] s)) ∧
      ((b = 255 ∨ ∃ z, hushed z) → ∃ t, exec (.hush tag [b]) s = .next t ∧ reached hushed t ∧
        t = { answered .hush tag .ok [] s with znt := t.znt, srs := t.srs, rpq := t.rpq } ∧
        ∀ z, (hushed z → t.zone z = { s.zone z with silenced := true, hush := (s.zone z).latched }) ∧
          (¬ hushed z → t.zone z = s.zone z))) ∧
    (Reaches .sound [b] s →
      ((b ≠ 255 ∧ ∀ z, ¬ named z) → exec (.sound tag [b]) s = .next (answered .sound tag .range [] s)) ∧
      ((b = 255 ∨ ∃ z, named z) → ∃ t, exec (.sound tag [b]) s = .next t ∧ reached sounded t ∧
        t = { answered .sound tag .ok [] s with znt := t.znt, srs := t.srs, rpq := t.rpq } ∧
        ∀ z, (sounded z → t.zone z = { s.zone z with silenced := false, hush := .normal }) ∧
          (¬ sounded z → t.zone z = s.zone z)))

/-- ZSET gives an enabled zone its MANUAL cause: the level asked for stands in the cause set, the current
level is at least that level and the latched level at least the current one, never below what it was. -/
def Obligations.ManualCauseOfAZone : Prop :=
  ∀ (tag b lb : Byte) (s : State), Reaches .zset [b, lb] s →
    (16 ≤ b.toNat ∨ 3 < lb.toNat ∨ (∃ z : Fin 16, b.toNat = z.val ∧ (s.zoneEntry z).enabled = false) →
      exec (.zset tag [b, lb]) s = .next (answered .zset tag .range [] s)) ∧
    ∀ (z : Fin 16) (l : Level), b.toNat = z.val → lb.toNat = l.rank → (s.zoneEntry z).enabled = true →
      ∃ t, exec (.zset tag [b, lb]) s = .next t ∧ t.lnk = replied .zset tag .ok [] s ∧
        (t.zone z).causes.manual = l ∧ (t.zone z).current = (t.zone z).causes.top ∧
        l.rank ≤ (t.zone z).current.rank ∧ (t.zone z).current.rank ≤ (t.zone z).latched.rank ∧
        (s.zone z).latched.rank ≤ (t.zone z).latched.rank ∧
        SameBelow { s.setZone z { s.zone z with causes := { (s.zone z).causes with manual := l } } with lnk := t.lnk } t

/-- The selected level of a siren (R156) is reached by a zone it covers that is not silenced, unless it is
NORMAL, and no such zone stands above it; the wanted pattern is the entry's pattern for that level, when
the siren is enabled and the pattern has a step. Where the wanted pattern formed anew is another one, the
siren acts by its state (R157, R161, R164): it joins the start queue and starts at once when the slot is free and
no other siren waits, it leaves the queue, it ends its step and goes on to the pattern or to OFF, and an alarm ends
its test ABORTED. A PATTERN write reaches the sirens that name the pattern, a SIREN write the siren alone (R167). -/
def Obligations.SelectedLevelAndWantedPattern : Prop :=
  (∀ (s : State) (i : Fin 8),
    (∀ z : Fin 16, (s.sirenEntry i).zones.getLsbD z.val = true → (s.zone z).silenced = false →
      (s.zone z).latched.rank ≤ (selectedLevel s i).rank) ∧
    (selectedLevel s i = .normal ∨ ∃ z : Fin 16, (s.sirenEntry i).zones.getLsbD z.val = true ∧ (s.zone z).silenced = false ∧
      (s.zone z).latched = selectedLevel s i) ∧
    ∀ p, wantedPattern s i = some p ↔ (s.sirenEntry i).enabled = true ∧ 0 < (s.patternEntry p).count ∧
      ((selectedLevel s i = .watch ∧ (s.sirenEntry i).watchPattern = some p) ∨
        (selectedLevel s i = .alert ∧ (s.sirenEntry i).alertPattern = some p) ∨
        (selectedLevel s i = .fire ∧ (s.sirenEntry i).firePattern = some p))) ∧
  (∀ (s : State) (i : Fin 8),
    let x := s.siren i
    let u := refreshSiren i s
    let closed : Prop := ∃ l, s.srs.lastStart = some l ∧ reached s.time (after l s.globalEntry.startGap) = false
    let alone : Prop := ∀ j, j ≠ i → (s.siren j).st.phase ≠ .startWait
    let ends (st : SirenState) (last : Option Time) (bodies : List Body) : Prop :=
      u = { s with srs := u.srs, rpq := recorded bodies s } ∧ u.srs.lastStart = last ∧ (u.siren i).st = st ∧
        (u.siren i).wanted = wantedPattern s i ∧ (u.siren i).fault = x.fault ∧ (u.siren i).load = x.load ∧
        ∀ j, j ≠ i → { u.siren j with output := (s.siren j).output } = s.siren j
    let sounding (p : Fin 8) : SirenState :=
      .sounding p 0 (decide (((s.patternEntry p).slots[0]).out = 1))
        (s.time + BitVec.ofNat 32 (((s.patternEntry p).slots[0]).units.toNat * 50)) none false
    (wantedPattern s i = x.wanted → u = s) ∧
    (∀ p, wantedPattern s i = some p → x.wanted ≠ some p →
      (x.st = .off → closed → ends (.startWait none) s.srs.lastStart [.sirenState i .startWait none]) ∧
      (x.st = .off → ¬ closed → alone →
        ends (sounding p) (some s.time) [.sirenState i .startWait none, .sirenState i .sounding (some p)]) ∧
      (x.st = .startWait none → ends x.st s.srs.lastStart []) ∧
      (∀ y, x.st = .startWait (some y) → ends (.startWait none) s.srs.lastStart [.testResult (.siren i) .aborted]) ∧
      (∀ c k w e n b, x.st = .sounding c k w e n b →
        ends (.sounding c k w e (if p = c then none else some p) false) s.srs.lastStart []) ∧
      (∀ c k w e n b, x.st = .test c k w e n b → ends (sounding p) s.srs.lastStart
        [.testResult (.siren i) .aborted, .sirenState i .sounding (some p)])) ∧
    (wantedPattern s i = none → x.wanted ≠ none →
      (x.st = .startWait none → ends .off s.srs.lastStart [.sirenState i .off none]) ∧
      (∀ c k w e n b, x.st = .sounding c k w e n b → ends (.sounding c k w e none true) s.srs.lastStart []) ∧
      (x.st = .off ∨ (∃ y, x.st = .startWait (some y)) ∨ x.st.phase = .test → ends x.st s.srs.lastStart []))) ∧
  (∀ (s : State) (p : Fin 8) (e : PatternEntry),
    let t := writePattern p e s
    let names (i : Fin 8) : Prop := (s.sirenEntry i).watchPattern = some p ∨ (s.sirenEntry i).alertPattern = some p ∨
      (s.sirenEntry i).firePattern = some p
    t = { s.setTables { s.cfs.tables with pattern := s.cfs.tables.pattern.set p e } with srs := t.srs, rpq := t.rpq } ∧
      t.rpq.bank = s.rpq.bank ∧
      ∀ i, (names i → (t.siren i).wanted = wantedPattern t i) ∧ (¬ names i → (t.siren i).wanted = (s.siren i).wanted)) ∧
  ∀ (s : State) (i : Fin 8) (e : SirenEntry),
    let old := s.sirenEntry i
    let t := writeSiren i e s
    let x := s.siren i
    let s1 := s.setTables { s.cfs.tables with siren := s.cfs.tables.siren.set i e }
    (e = old → t = s1) ∧
    (e ≠ old → old.enabled = false ∨ e.enabled = true →
      t = { s1 with srs := t.srs, rpq := t.rpq } ∧ t.rpq.bank = s.rpq.bank ∧ (t.siren i).wanted = wantedPattern t i ∧
      (t.siren i).load = x.load ∧ (∀ j, j ≠ i → (t.siren j).wanted = (s.siren j).wanted ∧ (t.siren j).fault = (s.siren j).fault) ∧
      (old.enabled = e.enabled ∨ s.cfs.mode = .start → (t.siren i).fault = x.fault) ∧
      (old.enabled ≠ e.enabled → s.cfs.mode ≠ .start → x.fault = none → (t.siren i).fault = x.load)) ∧
    (old.enabled = true → e.enabled = false →
      t = { s1 with
        srs := t.srs
        rpq := recorded
          ((match x.st with
              | .test _ _ _ _ _ _ | .startWait (some _) => [.testResult (.siren i) .aborted]
              | _ => []) ++
            (match x.fault with
              | none => []
              | some c => [.fault (.siren i c) false]) ++
            if x.st = .off then [] else [.sirenState i .off none]) s1 } ∧
      (t.siren i).st = .off ∧ (t.siren i).wanted = none ∧ (t.siren i).fault = none ∧ (t.siren i).load = x.load ∧
      t.srs.lastStart = s.srs.lastStart ∧ ∀ j, j ≠ i → { t.siren j with output := (s.siren j).output } = s.siren j)

/-! ### Trunks -/

/-- The truth of a trip entry, kind by kind (R102). -/
def Obligations.TripEntryTruth : Prop :=
  ∀ (s : State) (t : Fin 4) (slot : Fin 6),
    let e := s.tripEntry t slot
    tripTrue s t slot = true ↔
      (e.kind = .tracksAtLeast ∧ e.threshold ≤ (s.trunk t).newRing.toList.sum) ∨
      (e.kind = .missedAtLeast ∧ e.threshold ≤ (s.trunk t).missedRing.toList.sum) ∨
      (e.kind = .survivor ∧ (s.trunk t).survivor = true) ∨
      (e.kind = .standingLight ∧ ∃ i, (s.station i).standing = true ∧ (s.stationEntry i).pos.trunk = t) ∨
      (e.kind = .velocityBelow ∧ ((s.trunk t).prot = .run ∨ (s.trunk t).prot = .watch ∨ (s.trunk t).prot = .divert) ∧
        (s.air t).vf < e.threshold) ∨
      (e.kind = .filterZoneAtLeast ∧ e.threshold ≤ (s.zone (s.trunkEntry t).filterZone).current.rank) ∨
      (e.kind = .hallZoneAtLeast ∧ (e.threshold = 0 ∨ ∃ b, (s.branchEntry b).enabled = true ∧ (s.branchEntry b).trunk = t ∧
        e.threshold ≤ (s.zone (s.branchEntry b).hallZone).current.rank))

/-- The target of an enabled trunk is the highest action among its true entries, decided by the lowest
slot that has it; it is none exactly when no entry is true, and for a disabled trunk. -/
def Obligations.TargetIsTheHighestTrueAction : Prop :=
  ∀ (s : State) (t : Fin 4),
    (∀ a d, target s t = some (a, d) ↔ (s.trunkEntry t).enabled = true ∧ tripTrue s t d = true ∧ (s.tripEntry t d).action = a ∧
      (∀ e, tripTrue s t e = true → (s.tripEntry t e).action.rank ≤ a.rank) ∧
      ∀ e, e < d → tripTrue s t e = true → (s.tripEntry t e).action.rank < a.rank) ∧
    (target s t = none ↔ (s.trunkEntry t).enabled = false ∨ ∀ e, tripTrue s t e = false)

/-- The table of R104. A target acts on its trunk row by row whatever its entries read, and on no other trunk. The
re-evaluation of all targets (R103) leaves everything as it stands where none has anything to do, and otherwise begins,
in the model's order (log entry 10), with the lowest trunk whose state one changes, after which all are evaluated anew;
where no entry reads a zone level, it leaves every trunk as the table says of the targets it began with. -/
def Obligations.TrunkActsOnItsTarget : Prop :=
  ∀ (s : State) (k : Fin 4),
    (AnswersTarget s k ((actOn k s).trunk k) ∧ (∀ j, j ≠ k → (actOn k s).trunk j = s.trunk j) ∧ SameBelow s (actOn k s)) ∧
    ((∀ j, actOn j s = s) → settleAll s = s) ∧
    ((∀ j, j < k → actOn j s = s) → ((actOn k s).trunk k).prot ≠ (s.trunk k).prot →
      settleAll s = settle (127 - k.val) trunks4 (actOn k s)) ∧
    ((∀ j, LevelFreeTrips s j) → AnswersTarget s k ((settleAll s).trunk k))

/-- TRUN takes an enabled trunk out of HALT in ARMED, unless its target halts: its fan starts, its fan
fault and fan-quiet end, and it stands in STARTING under its start timer, or in RUN when the run condition
holds already and its target is none; it is REFUSED otherwise, and RANGE for a disabled trunk. -/
def Obligations.ResumedTrunk : Prop :=
  ∀ (tag b : Byte) (s : State), Reaches .trun [b] s →
    (4 ≤ b.toNat ∨ (∃ k : Fin 4, b.toNat = k.val ∧ (s.trunkEntry k).enabled = false) →
      exec (.trun tag [b]) s = .next (answered .trun tag .range [] s)) ∧
    ∀ k : Fin 4, b.toNat = k.val → (s.trunkEntry k).enabled = true →
      let x := { s.trunk k with fanStop := none, fanQuiet := false, fanFault := false }
      let halts : Prop := ∃ d, target s k = some (.haltClear, d) ∨ target s k = some (.haltNow, d)
      let runs : Prop := (s.trunk k).fanIn = true ∧ (s.trunkEntry k).vRun ≤ (s.air k).vf
      (s.cfs.mode = .configure ∨ (∀ c, (s.trunk k).prot ≠ .halt c) ∨ halts →
        exec (.trun tag [b]) s = .next (answered .trun tag .refused [] s)) ∧
      (∀ c, s.cfs.mode = .armed → (s.trunk k).prot = .halt c → ¬ halts →
        ∃ t, exec (.trun tag [b]) s = .next t ∧ t.lnk = replied .trun tag .ok [] s ∧ (t.trunk k).fanFault = false ∧
          (∀ c, (t.trunk k).prot = .halt c → ∃ d, c = .trip d) ∧
          (LevelFreeTrips s k → ¬ runs → t.trunk k =
            { fanOnTrunk .starting x with startTimer := some (s.time + BitVec.ofNat 32 ((s.trunkEntry k).startTimeout * 1000)) }) ∧
          (CountingTrips s k → runs → target s k = none → t.trunk k = fanOnTrunk .run x) ∧
          SameBelow { s.setTrunk k { s.trunk k with fanFault := false } with lnk := t.lnk } t)

/-- THALT with mode NOW halts an enabled trunk with cause MANUAL whatever its state of a running fan; with
mode CLEAR a running trunk runs on for its clear delay and a starting one halts; a trunk already stopping
or halted is left as it is; a disabled trunk or a mode above 1 is RANGE. -/
def Obligations.HaltedByRequest : Prop :=
  ∀ (tag b m : Byte) (s : State), Reaches .thalt [b, m] s →
    (4 ≤ b.toNat ∨ 1 < m.toNat ∨ (∃ k : Fin 4, b.toNat = k.val ∧ (s.trunkEntry k).enabled = false) →
      exec (.thalt tag [b, m]) s = .next (answered .thalt tag .range [] s)) ∧
    ∀ k : Fin 4, b.toNat = k.val → (s.trunkEntry k).enabled = true →
      let x := s.trunk k
      let e := s.trunkEntry k
      let runs : Prop := x.prot = .run ∨ x.prot = .watch ∨ x.prot = .divert
      let frame (t : State) : Prop := t.lnk = replied .thalt tag .ok [] s ∧ SameBelow { s with lnk := t.lnk } t
      ((∃ c, x.prot = .halt c) ∧ m.toNat ≤ 1 ∨ (∃ c, x.prot = .stopping c) ∧ m = 0 →
        exec (.thalt tag [b, m]) s = .next (answered .thalt tag .ok [] s)) ∧
      ((∀ c, x.prot ≠ .halt c) ∧ m = 1 ∨ x.prot = .starting ∧ m = 0 →
        ∃ t, exec (.thalt tag [b, m]) s = .next t ∧ frame t ∧ t.trunk k = haltedTrunk e .manual s.time x ∧
          t.rpq.bank.trunk[k] = s.rpq.bank.trunk[k]) ∧
      (runs → m = 0 → ∃ t, exec (.thalt tag [b, m]) s = .next t ∧ frame t ∧
        (t.trunk k = stoppedTrunk e .manual s.time x ∨
          ∃ d, (t.trunk k).prot = .halt (.trip d)) ∧
        (LevelFreeTrips s k → (∀ d, target s k ≠ some (.haltNow, d)) → ∀ c, (t.trunk k).prot = .halt c → e.clearDelay = 0 ∧ c = .manual))

/-- An advance that is due moves the current slot to the next, clears the slot of both rings there, sets the next
advance one slot length on and has every target re-evaluated (R103), in the model's order (log entry 10); one that
is not due changes nothing. A command whose condition does not hold changes nothing: the model's choice, log entry
4. -/
def Obligations.RingsAdvance : Prop :=
  ∀ (s : State) (k : Fin 4),
    let x := s.trunk k
    (∀ e, x.nextAdvance = some e → reached s.time e = true →
      let n : Fin 8 := x.slot + 1
      let y : Trunk :=
        { x with
          slot := n, newRing := x.newRing.set n 0, missedRing := x.missedRing.set n 0
          slotStart := s.time, nextAdvance := some (s.time + BitVec.ofNat 32 (s.trunkEntry k).slotLen) }
      let t := settleAll (s.setTrunk k y)
      exec (.slotAdvance k) s = .next t ∧ SameBelow (s.setTrunk k y) t ∧ (∀ c, x.prot = .halt c → t.trunk k = y)) ∧
    ((∀ e, x.nextAdvance = some e → reached s.time e = false) → exec (.slotAdvance k) s = .next s)

/-- The gate timer, the start timer and the clear delay of a trunk end in HALT with cause GATE_FAULT, START_FAIL and
the pending cause, one halt by trip being counted for a TRIP; the fan, the gate and every timer stand as HALT has
them; a timer that is not due changes nothing. At the end of a divert hold a trunk none of whose trip entries reads
a zone level is in WATCH at a WATCH target and in RUN without one, its gate back at normal. A command whose
condition does not hold changes nothing: the model's choice, log entry 4. -/
def Obligations.TrunkTimersEnd : Prop :=
  (∀ (s : State) (k : Fin 4),
    let x := s.trunk k
    let halted (c : Cause) (t : State) : Prop :=
      t.trunk k = haltedTrunk (s.trunkEntry k) c s.time x ∧ SameBelow s t ∧
      (t.rpq.bank.trunk[k]).haltsByTrip =
        (match c with
          | .trip _ => (s.rpq.bank.trunk[k]).haltsByTrip + 1
          | _ => (s.rpq.bank.trunk[k]).haltsByTrip)
    (∀ e, x.gateTimer = some e → reached s.time e = true → ∃ t, exec (.gateTimerExpiry k) s = .next t ∧ halted .gateFault t) ∧
    (∀ e, x.startTimer = some e → reached s.time e = true → ∃ t, exec (.startTimeout k) s = .next t ∧ halted .startFail t) ∧
    (∀ e c, x.clearDelay = some e → x.prot = .stopping c → reached s.time e = true →
      ∃ t, exec (.clearDelayExpiry k) s = .next t ∧ halted c t) ∧
    ((∀ e, x.gateTimer = some e → reached s.time e = false) → exec (.gateTimerExpiry k) s = .next s) ∧
    ((∀ e, x.startTimer = some e → reached s.time e = false) → exec (.startTimeout k) s = .next s) ∧
    ((∀ e, x.clearDelay = some e → reached s.time e = false) → exec (.clearDelayExpiry k) s = .next s)) ∧
  ∀ (s : State) (k : Fin 4),
    (∀ e, (s.trunk k).divertHold = some e → reached s.time e = true →
      let steady : Prop := CountingTrips s k ∨ (LevelFreeTrips s k ∧ (s.trunk k).prot = .divert)
      ∃ t, exec (.divertHoldExpiry k) s = .next t ∧ SameBelow s t ∧
        (steady → target s k = none → t.trunk k = fanOnTrunk .run (s.trunk k)) ∧
        (steady → ∀ d, target s k = some (.watch, d) → t.trunk k = fanOnTrunk .watch (s.trunk k))) ∧
    ((∀ e, (s.trunk k).divertHold = some e → reached s.time e = false) → exec (.divertHoldExpiry k) s = .next s)

/-- A fan-stop timer that is due sets fan-quiet and FAN_FAULT, releases every door waiting for this fan with its
close timer running, and records the doors and then the urgent fault; nothing else changes, and a timer that is not
due changes nothing. A FAN input that becomes inactive while the timer runs sets fan-quiet and releases the same
doors, and one that becomes inactive ends a set FAN_FAULT. The model's choices: the doors' records stand before the
fault's (log entry 19), the doors in rising index (log entry 27), the INPUT record before both (log entry 30), and a
command whose condition does not hold changes nothing (log entry 4). -/
def Obligations.FanStopTimeoutReleasesDoors : Prop :=
  ∀ (s : State) (k : Fin 4),
    let waits (d : Fin 16) : Bool := decide ((s.doorEntry d).interlock = some k) && decide ((s.door d).st.phase = .waitFan)
    (∀ e, (s.trunk k).fanStop = some e → reached s.time e = true →
      ∃ drc, exec (.fanStopTimeout k) s = .next
        { s.setTrunk k { s.trunk k with fanQuiet := true, fanStop := none, fanFault := true } with
          drc := drc
          rpq := recorded ((all16.filter waits).map (fun d => .doorState d .released) ++ [.fault (.fan k) true]) s } ∧
        ∀ d : Fin 16, drc[d] =
          if waits d then
            { s.door d with
              st := .released s.time (s.time + BitVec.ofNat 32 ((s.doorEntry d).closeTimeout * 1000)), holder := false }
          else s.door d) ∧
    ((∀ e, (s.trunk k).fanStop = some e → reached s.time e = false) → exec (.fanStopTimeout k) s = .next s) ∧
    ∀ i : Fin 32, HandsOver s i (.fan k) false → (s.trunk k).fanIn = true →
      let stopped : Bool := (s.trunk k).fanStop.isSome
      ∃ drc, exec (.debounceExpiry i) s = .next
        { (s.setInput i (debouncedInput s i)).setTrunk k
            { s.trunk k with
              fanIn := false, fanStop := none, fanQuiet := stopped || (s.trunk k).fanQuiet, fanFault := false } with
          drc := drc
          rpq := recorded (.input i false ::
            ((if stopped then (all16.filter waits).map (fun d => .doorState d .released) else []) ++
              if (s.trunk k).fanFault then [.fault (.fan k) false] else [])) s } ∧
        ∀ d : Fin 16, drc[d] =
          if stopped && waits d then
            { s.door d with
              st := .released s.time (s.time + BitVec.ofNat 32 ((s.doorEntry d).closeTimeout * 1000)), holder := false }
          else s.door d

/-! ### Doors -/

/-- A release delay that is due releases its door or leaves it waiting for its fan, and a close timer that is due
leaves it BLOCKED with its urgent fault; a timer that is not due changes nothing. The level trigger (R141) asks an
open door for its release by R142, closes a READY one, and where it no longer holds takes back a release that waits;
a rise of a zone's latched level reaches the enabled doors that adjoin it, and no other. A contact that closes ends
the release (R143 to R146), one that opens leaves READY (R147). A DOOR write that keeps or sets the enabled field
moves a running timer, tests the interlock, or takes the door up (R152). The model's choices: DOOR_STATE stands
before the door's FAULT record (log entry 19) and after the INPUT record (log entry 30), the trigger before the
timers at a write (log entry 14), and a command whose condition does not hold changes nothing (log entry 4). -/
def Obligations.DoorTimers : Prop :=
  (∀ (s : State) (d : Fin 16),
    let e := s.doorEntry d
    let free : Prop := ∀ t, e.interlock = some t → (s.trunkEntry t).enabled = false ∨ (s.trunk t).fanQuiet = true
    let becomes (st : DoorState) (on : Bool) (bodies : List Body) : State :=
      { s.setDoor d { s.door d with st := st, holder := on } with rpq := recorded bodies s }
    (∀ t x, (s.door d).st = .delayed t x → reached s.time x = true →
      (free → exec (.releaseDelayExpiry d) s = .next
        (becomes (.released s.time (s.time + BitVec.ofNat 32 (e.closeTimeout * 1000))) false [.doorState d .released])) ∧
      (¬ free → exec (.releaseDelayExpiry d) s = .next (becomes (.waitFan .level) true [.doorState d .waitFan]))) ∧
    ((∀ t x, (s.door d).st = .delayed t x → reached s.time x = false) → exec (.releaseDelayExpiry d) s = .next s) ∧
    (∀ t x, (s.door d).st = .released t x → reached s.time x = true →
      exec (.closeTimerExpiry d) s = .next (becomes .blocked false [.doorState d .blocked, .fault (.door d) true])) ∧
    ((∀ t x, (s.door d).st = .released t x → reached s.time x = false) → exec (.closeTimerExpiry d) s = .next s) ∧
    (levelTrigger s d = true ↔ e.level.rank ≤ (s.zone e.zoneA).latched.rank ∨
      ∃ z, e.zoneB = some z ∧ e.level.rank ≤ (s.zone z).latched.rank) ∧
    (let open_ : Prop := (s.door d).st = .held
     let delays : Prop := 0 < e.delay ∧ doorLevel s d ≠ .fire
     let released : State := becomes (.released s.time (s.time + BitVec.ofNat 32 (e.closeTimeout * 1000))) false [.doorState d .released]
     let waits : State := becomes (.waitFan .level) true [.doorState d .waitFan]
     let held : State := becomes .held true [.doorState d .held]
     (levelTrigger s d = true →
       (open_ → delays → evalTrigger d s =
         becomes (.delayed s.time (s.time + BitVec.ofNat 32 (e.delay * 1000))) true [.doorState d .delayed]) ∧
       (open_ ∧ ¬ delays ∨ (∃ t x, (s.door d).st = .delayed t x) ∧ doorLevel s d = .fire →
         (free → evalTrigger d s = released) ∧ (¬ free → evalTrigger d s = waits)) ∧
       ((s.door d).st = .ready → evalTrigger d s = becomes .closed false [.doorState d .closed]) ∧
       ((∃ t x, (s.door d).st = .delayed t x) → doorLevel s d ≠ .fire → evalTrigger d s = s)) ∧
     (levelTrigger s d = false →
       (open_ ∨ (s.door d).st = .ready → evalTrigger d s = s) ∧
       ((∃ t x, (s.door d).st = .delayed t x) ∨ (s.door d).st = .waitFan .level → evalTrigger d s = held)) ∧
     ((s.door d).st = .waitFan .shut ∨ (s.door d).st = .waitFan .level ∧ levelTrigger s d = true ∨
         (∃ t x, (s.door d).st = .released t x) ∨ (s.door d).st = .closed ∨ (s.door d).st = .blocked ∨ (s.door d).st = .disabled →
       evalTrigger d s = s)) ∧
    (∀ (z : Fin 16) (l : Level),
      let u := riseLatched z l s
      let adjoining : Prop := e.enabled = true ∧ (e.zoneA = z ∨ e.zoneB = some z)
      (adjoining → u.door d = (evalTrigger d { s with znt := u.znt }).door d) ∧ (¬ adjoining → u.door d = s.door d)) ∧
    ∀ (i : Fin 32) (closed : Bool), HandsOver s i (.door d) closed → (s.door d).contact ≠ closed →
      let x := s.door d
      let becomes (st : DoorState) (on : Bool) (bodies : List Body) : Prop :=
        exec (.debounceExpiry i) s = .next
          { (s.setInput i (debouncedInput s i)).setDoor d { st := st, holder := on, contact := closed } with
            rpq := recorded (.input i closed :: bodies) s }
      (closed = true → x.st = .held → becomes .ready true [.doorState d .ready]) ∧
      (closed = true → (∃ a b, x.st = .delayed a b) ∨ (∃ r, x.st = .waitFan r) ∨ (∃ a b, x.st = .released a b) →
        becomes .closed false [.doorState d .closed]) ∧
      (closed = true → x.st = .blocked → becomes .closed false [.doorState d .closed, .fault (.door d) false]) ∧
      (closed = true → x.st = .ready ∨ x.st = .closed ∨ x.st = .disabled → becomes x.st x.holder []) ∧
      (closed = false → x.st = .ready → becomes .held true [.doorState d .held]) ∧
      (closed = false → x.st ≠ .ready → becomes x.st x.holder [])) ∧
  ∀ (s : State) (d : Fin 16) (e : DoorEntry), e.enabled = true →
    let old := s.doorEntry d
    let x := s.door d
    let s1 := s.setTables { s.cfs.tables with door := s.cfs.tables.door.set d e }
    let free : Prop := ∀ t, e.interlock = some t → (s.trunkEntry t).enabled = false ∨ (s.trunk t).fanQuiet = true
    let becomes (st : DoorState) (on : Bool) (bodies : List Body) : State :=
      { s1.setDoor d { x with st := st, holder := on } with rpq := recorded bodies s1 }
    let released : State := becomes (.released s.time (s.time + BitVec.ofNat 32 (e.closeTimeout * 1000))) false [.doorState d .released]
    let level : Level := match e.zoneB with
      | none => (s.zone e.zoneA).latched
      | some z => if (s.zone e.zoneA).latched.rank ≤ (s.zone z).latched.rank then (s.zone z).latched else (s.zone e.zoneA).latched
    (old.enabled = false → x.contact = true → writeDoor d e s = evalTrigger d (becomes .ready true [.doorState d .ready])) ∧
    (old.enabled = false → x.contact = false → writeDoor d e s = evalTrigger d (becomes .held true [.doorState d .held])) ∧
    (old.enabled = true → ∀ a b, x.st = .delayed a b → e.level.rank ≤ level.rank → level ≠ .fire →
      let expiry := a + BitVec.ofNat 32 (e.delay * 1000)
      (old.delay = e.delay → writeDoor d e s = s1) ∧
      (old.delay ≠ e.delay → reached s.time expiry = false →
        writeDoor d e s = s1.setDoor d { x with st := .delayed a expiry }) ∧
      (old.delay ≠ e.delay → reached s.time expiry = true → 0 < e.closeTimeout → e.closeTimeout ≤ 60 →
        (free → writeDoor d e s = released) ∧
        (¬ free → writeDoor d e s = becomes (.waitFan .level) true [.doorState d .waitFan]))) ∧
    (old.enabled = true → ∀ a b, x.st = .released a b →
      let expiry := a + BitVec.ofNat 32 (e.closeTimeout * 1000)
      (old.closeTimeout = e.closeTimeout → writeDoor d e s = s1) ∧
      (old.closeTimeout ≠ e.closeTimeout → reached s.time expiry = false →
        writeDoor d e s = s1.setDoor d { x with st := .released a expiry }) ∧
      (old.closeTimeout ≠ e.closeTimeout → reached s.time expiry = true →
        writeDoor d e s = becomes .blocked false [.doorState d .blocked, .fault (.door d) true])) ∧
    (old.enabled = true → ∀ r, x.st = .waitFan r → r = .shut ∨ e.level.rank ≤ level.rank →
      (old.interlock ≠ e.interlock → free → writeDoor d e s = released) ∧
      (old.interlock = e.interlock ∨ ¬ free → writeDoor d e s = s1))

/-- DHOLD takes a released door back onto its holder, unless its level trigger holds; DSHUT asks for the
release of a door by its state; a disabled door or an index above 15 is RANGE. The door, its record and
the link are all that change. The model's choices: DOOR_STATE stands before the FAULT clear of a BLOCKED door (log entry
19), and the reply of a DHOLD of one door carries no payload (log entry 33). -/
def Obligations.DoorRequests : Prop :=
  ∀ (tag b : Byte) (s : State),
    let becomes (k : ReqKind) (d : Fin 16) (st : DoorState) (on : Bool) (bodies : List Body) : State :=
      { answered k tag .ok [] s with
        drc := s.drc.set d { s.door d with st := st, holder := on }, rpq := recorded bodies s }
    let released (d : Fin 16) : DoorState := .released s.time (s.time + BitVec.ofNat 32 ((s.doorEntry d).closeTimeout * 1000))
    let barred (p : List Byte) (k : ReqKind) (c : Instr) : Prop := Reaches k p s → b ≠ 255 →
      (16 ≤ b.toNat ∨ ∃ d : Fin 16, b.toNat = d.val ∧ (s.doorEntry d).enabled = false) →
        exec c s = .next (answered k tag .range [] s)
    barred [b] .dhold (.dhold tag [b]) ∧ barred [b] .dshut (.dshut tag [b]) ∧
    (∀ d : Fin 16, Reaches .dhold [b] s → b.toNat = d.val → (s.doorEntry d).enabled = true →
      (levelTrigger s d = false →
        (∀ t x, (s.door d).st = .released t x → exec (.dhold tag [b]) s = .next (becomes .dhold d .held true [.doorState d .held])) ∧
        ((s.door d).st = .closed → (s.door d).contact = true →
          exec (.dhold tag [b]) s = .next (becomes .dhold d .ready true [.doorState d .ready])) ∧
        ((s.door d).st = .closed → (s.door d).contact = false →
          exec (.dhold tag [b]) s = .next (becomes .dhold d .held true [.doorState d .held])) ∧
        ((s.door d).st = .blocked →
          exec (.dhold tag [b]) s = .next (becomes .dhold d .held true [.doorState d .held, .fault (.door d) false]))) ∧
      ((levelTrigger s d = true ∨ ¬ ((∃ t x, (s.door d).st = .released t x) ∨ (s.door d).st = .closed ∨ (s.door d).st = .blocked)) →
        exec (.dhold tag [b]) s = .next (answered .dhold tag .refused [] s))) ∧
    (∀ d : Fin 16, Reaches .dshut [b] s → b.toNat = d.val → (s.doorEntry d).enabled = true →
      let free : Prop :=
        ∀ t, (s.doorEntry d).interlock = some t → (s.trunkEntry t).enabled = false ∨ (s.trunk t).fanQuiet = true
      ((s.door d).st = .ready → exec (.dshut tag [b]) s = .next (becomes .dshut d .closed false [.doorState d .closed])) ∧
      ((s.door d).st = .held ∨ (∃ t x, (s.door d).st = .delayed t x) →
        (free → exec (.dshut tag [b]) s = .next (becomes .dshut d (released d) false [.doorState d .released])) ∧
        (¬ free → exec (.dshut tag [b]) s = .next (becomes .dshut d (.waitFan .shut) true [.doorState d .waitFan]))) ∧
      (∀ x, (s.door d).st = .waitFan x → exec (.dshut tag [b]) s = .next
        { answered .dshut tag .ok [] s with drc := s.drc.set d { s.door d with st := .waitFan .shut } }) ∧
      ((∃ t x, (s.door d).st = .released t x) ∨ (s.door d).st = .closed ∨ (s.door d).st = .blocked ∨ (s.door d).st = .disabled →
        exec (.dshut tag [b]) s = .next (answered .dshut tag .ok [] s)))

/-- DHOLD and DSHUT of all doors act on every enabled door as a request for it alone would; DHOLD is
answered OK with the set of enabled doors it could not take. DSHUT closes a READY door, gives a waiting one the
source SHUT, and releases a held or delayed one or leaves it waiting for its fan. -/
def Obligations.DoorRequestsForAll : Prop :=
  ∀ (tag : Byte) (s : State),
    let released (d : Fin 16) : Prop := (∃ t x, (s.door d).st = .released t x) ∨ (s.door d).st = .closed ∨ (s.door d).st = .blocked
    let waiting (d : Fin 16) : Prop := (∃ t x, (s.door d).st = .delayed t x) ∨ ∃ x, (s.door d).st = .waitFan x
    let taken (d : Fin 16) : Prop := (s.doorEntry d).enabled = true ∧ released d ∧ levelTrigger s d = false
    let shut (d : Fin 16) : Prop := (s.doorEntry d).enabled = true ∧ ¬ released d ∧ (s.door d).st ≠ .disabled
    (Reaches .dhold [255] s → ∃ t p, exec (.dhold tag [255]) s = .next t ∧
      t = { answered .dhold tag .ok p s with drc := t.drc, rpq := t.rpq } ∧ t.rpq.bank = s.rpq.bank ∧ p.length = 2 ∧
      (∀ d : Fin 16, (p.getD (d.val / 8) 0).getLsbD (d.val % 8) = true ↔
        (s.doorEntry d).enabled = true ∧ (waiting d ∨ (released d ∧ levelTrigger s d = true))) ∧
      ∀ d, (taken d → t.door d = { s.door d with
          st := if (s.door d).st = .closed ∧ (s.door d).contact = true then .ready else .held, holder := true }) ∧
        (¬ taken d → t.door d = s.door d)) ∧
    (Reaches .dshut [255] s → ∃ t, exec (.dshut tag [255]) s = .next t ∧
      t = { answered .dshut tag .ok [] s with drc := t.drc, rpq := t.rpq } ∧ t.rpq.bank = s.rpq.bank ∧
      ∀ d,
        let free : Prop :=
          ∀ k, (s.doorEntry d).interlock = some k → (s.trunkEntry k).enabled = false ∨ (s.trunk k).fanQuiet = true
        let asked : Prop := (s.door d).st = .held ∨ ∃ t x, (s.door d).st = .delayed t x
        (shut d → (s.door d).st = .ready → t.door d = { s.door d with st := .closed, holder := false }) ∧
        (shut d → ∀ x, (s.door d).st = .waitFan x → t.door d = { s.door d with st := .waitFan .shut }) ∧
        (shut d → asked → free → t.door d =
          { s.door d with
            st := .released s.time (s.time + BitVec.ofNat 32 ((s.doorEntry d).closeTimeout * 1000)), holder := false }) ∧
        (shut d → asked → ¬ free → t.door d = { s.door d with st := .waitFan .shut, holder := true }) ∧
        (¬ shut d → t.door d = s.door d))

/-! ### Tests -/

/-- HTEST puts a scanning station into TEST: an open run ends, the emitter is on, the result RUNNING; it is
RANGE for a disabled station, BUSY in TEST, and REFUSED in OFF and FAULT and for a station a track awaits. A test whose
window has run out FAILs: the emitter is off, the station takes the state selected now, and its TEST_RESULT
record is appended; before that, and outside a test, nothing changes.
A command whose condition does not hold changes nothing: the model's choice, log entry 4. -/
def Obligations.HeadTestsBeginAndRunOut : Prop :=
  (∀ (tag b : Byte) (s : State), Reaches .htest [b] s →
    (16 ≤ b.toNat ∨ (∃ i : Fin 16, b.toNat = i.val ∧ (s.stationEntry i).enabled = false) →
      exec (.htest tag [b]) s = .next (answered .htest tag .range [] s)) ∧
    ∀ i : Fin 16, b.toNat = i.val → (s.stationEntry i).enabled = true →
      let awaitedHere : Prop := ∃ k ∈ s.trc.tracks, ∃ e, k.next = some e ∧ e.station = i
      let scanning : Prop := (s.station i).scan = .cont ∨ ∃ o w n, (s.station i).scan = .duty o w n
      let tested : Station :=
        { s.station i with
          scan := .test s.time (s.time + BitVec.ofNat 32 s.globalEntry.testWindow), run := none, standing := false
          lastResult := .running, emitter := true }
      ((∃ t e, (s.station i).scan = .test t e) → exec (.htest tag [b]) s = .next (answered .htest tag .busy [] s)) ∧
      ((s.station i).scan = .off ∨ (∃ c, (s.station i).scan = .fault c) ∨ (scanning ∧ awaitedHere) →
        exec (.htest tag [b]) s = .next (answered .htest tag .refused [] s)) ∧
      (scanning → ¬ awaitedHere → (s.station i).run = none → (s.station i).standing = false →
        exec (.htest tag [b]) s = .next
          { answered .htest tag .ok [] s with dfe := { s.dfe with stations := s.dfe.stations.set i tested } }) ∧
      (scanning → ¬ awaitedHere → ∀ r, (s.station i).run = some r →
        ∃ t, exec (.htest tag [b]) s = .next t ∧ t.lnk = replied .htest tag .ok [] s ∧ t.station i = tested ∧
          t.trc.tracks = s.trc.tracks.map (fun k => if k.id = r.track.getD 0 then { k with peak := max k.peak r.peak } else k) ∧
          SameBelow { s.setStation i tested with
            trc := t.trc, lnk := t.lnk, rpq := { s.rpq with bank := { s.rpq.bank with station := t.rpq.bank.station } } } t)) ∧
  ∀ (s : State) (i : Fin 16),
    let e := s.stationEntry i
    let on : Prop := e.enabled = true ∧ (s.trunkEntry e.pos.trunk).enabled = true ∧ s.dfe.released = true
    let halted : Prop := ∃ c, (s.trunk e.pos.trunk).prot = .halt c
    let ended (scan : Scan) : State :=
      { s.setStation i { s.station i with scan := scan, lastResult := .fail, emitter := false } with
        rpq := recorded [.testResult (.head i) .fail] s }
    (∀ t x, (s.station i).scan = .test t x → reached s.time x = true →
      (¬ on → exec (.testWindowExpiry i) s = .next (ended .off)) ∧
      (on → ¬ halted → exec (.testWindowExpiry i) s = .next (ended .cont)) ∧
      (on → halted → exec (.testWindowExpiry i) s = .next
        (ended (.duty s.time true (s.time + BitVec.ofNat 32 s.globalEntry.dutyInterval))))) ∧
    ((∀ t x, (s.station i).scan = .test t x → reached s.time x = false) → exec (.testWindowExpiry i) s = .next s)

/-- VTEST opens an idle valve of an enabled, halted trunk when a BRANCH grant of its demand is possible: it
draws its units for the time asked for; otherwise it is RANGE, REFUSED or BUSY in that order. A test that
has run its time closes its valve with PASS where it saw flow and FAIL where not, gives its units back and
scans the waiting valves; before that, and outside a test, nothing changes. The flow prove and unexpected flow timers
start and stop with the units in use (R85, R87).
A command whose condition does not hold changes nothing: the model's choice, log entry 4. -/
def Obligations.TestSpraysBeginAndEnd : Prop :=
  (∀ (tag b lo hi : Byte) (s : State), Reaches .vtest [b, lo, hi] s →
    let dur := lo.toNat + 256 * hi.toNat
    (12 ≤ b.toNat ∨ dur < 100 ∨ 10000 < dur ∨ (∃ v : Fin 12, b.toNat = v.val ∧ (s.valveEntry v).enabled = false) →
      exec (.vtest tag [b, lo, hi]) s = .next (answered .vtest tag .range [] s)) ∧
    ∀ v : Fin 12, b.toNat = v.val → 100 ≤ dur → dur ≤ 10000 → (s.valveEntry v).enabled = true →
      let k := (s.valveEntry v).pos.trunk
      let d := (s.valveEntry v).demand
      let rests : Prop := (s.trunkEntry k).enabled = true ∧ ∃ c, (s.trunk k).prot = .halt c
      let counted : ValveCounters := { s.rpq.bank.valve[v] with tests := (s.rpq.bank.valve[v]).tests + 1 }
      let room : Prop := (s.valve v).st = .idle ∧ s.spa.units + d ≤ s.supplyEntry.capacity ∧
        s.spa.nonFilter + d ≤ s.supplyEntry.capacity - s.supplyEntry.reserve
      (¬ rests → exec (.vtest tag [b, lo, hi]) s = .next (answered .vtest tag .refused [] s)) ∧
      (rests → ¬ room → exec (.vtest tag [b, lo, hi]) s = .next (answered .vtest tag .busy [] s)) ∧
      (rests → room → ∃ t, exec (.vtest tag [b, lo, hi]) s = .next t ∧
        t.valve v = { st := .test (s.time + BitVec.ofNat 32 dur) (s.spa.flow && decide (0 < s.spa.units + d)), output := true } ∧
        (∀ w, w ≠ v → t.valve w = if s.spa.flow = true ∧ 0 < s.spa.units + d then (s.valve w).seeFlow else s.valve w) ∧
        t = { answered .vtest tag .ok [] s with
          spa := drawnSupply s d .branch t.spa.valves
          rpq := { s.rpq with bank := { s.rpq.bank with valve := s.rpq.bank.valve.set v counted } } })) ∧
  ∀ (s : State) (v : Fin 12),
    (∀ x seen, (s.valve v).st = .test x seen → reached s.time x = true →
      ∃ t, exec (.testSprayEnd v) s = .next t ∧ t.valve v = { st := .idle, output := false } ∧
        t = { s with trc := t.trc, spa := t.spa, rpq := t.rpq } ∧
        t.rpq.bank.valve[v] = s.rpq.bank.valve[v] ∧ t.rpq.bank.station = s.rpq.bank.station ∧ t.rpq.bank.trunk = s.rpq.bank.trunk ∧
        (∀ w, w ≠ v → (∀ sch since, (s.valve w).st ≠ .waiting sch since) →
          t.valve w = if s.spa.flow = true ∧ 0 < t.spa.units then (s.valve w).seeFlow else s.valve w) ∧
        ReleasedSupply s t (s.valveEntry v).demand ∧ t.spa.sampler = s.spa.sampler ∧
        ((∀ w sch since, (s.valve w).st ≠ .waiting sch since) →
          t.trc = s.trc ∧ t.rpq = recorded [.testResult (.spray v) (if seen then .pass else .fail)] s ∧
          t.spa.units = s.spa.units - (s.valveEntry v).demand ∧ t.spa.nonFilter = s.spa.nonFilter - (s.valveEntry v).demand)) ∧
    ((∀ x seen, (s.valve v).st = .test x seen → reached s.time x = false) → exec (.testSprayEnd v) s = .next s)

/-- STEST of a silent, unwanted, enabled siren under a pattern with a step queues its test; it starts at once
when the start slot is free and no other siren waits. It is RANGE for a bad operand, REFUSED while a
pattern is wanted, and BUSY while a test is pending or running or a stop order waits. A test whose
time has run out ends OFF, FAIL where a fault was seen and PASS where not, and a partner that calls is driven from
then on. A siren's output is decided by its step, its load and its partner (R162), and a partner freed by it is
driven at once. The model's choices: SIREN_STATE OFF before the TEST_RESULT (log entry 19), and a command whose
condition does not hold changes nothing (log entry 4). -/
def Obligations.SirenTestsBeginAndEnd : Prop :=
  (∀ (tag ib pb lo hi : Byte) (s : State), Reaches .stest [ib, pb, lo, hi] s →
    let dur := lo.toNat + 256 * hi.toNat
    let c : Instr := .stest tag [ib, pb, lo, hi]
    (8 ≤ ib.toNat ∨ 8 ≤ pb.toNat ∨ dur < 1000 ∨ 60000 < dur ∨ (∃ i : Fin 8, ib.toNat = i.val ∧ (s.sirenEntry i).enabled = false) ∨
        (∃ p : Fin 8, pb.toNat = p.val ∧ (s.patternEntry p).count = 0) →
      exec c s = .next (answered .stest tag .range [] s)) ∧
    ∀ i p : Fin 8, ib.toNat = i.val → pb.toNat = p.val → 1000 ≤ dur → dur ≤ 60000 → (s.sirenEntry i).enabled = true →
      0 < (s.patternEntry p).count →
      ((s.siren i).wanted ≠ none → exec c s = .next (answered .stest tag .refused [] s)) ∧
      ((s.siren i).wanted = none → ((∃ x, (s.siren i).st = .startWait (some x)) ∨ (s.siren i).st.phase = .test ∨
          ∃ q k w x n, (s.siren i).st = .sounding q k w x n true) →
        exec c s = .next (answered .stest tag .busy [] s)) ∧
      ((s.siren i).wanted = none → (s.siren i).st = .off →
        ∃ t, exec c s = .next t ∧ t = { answered .stest tag .ok [] s with srs := t.srs, rpq := t.rpq } ∧ t.rpq.bank = s.rpq.bank ∧
          (t.siren i).wanted = none ∧ (t.siren i).fault = (s.siren i).fault ∧ (t.siren i).load = (s.siren i).load ∧
          ((∀ j, (s.siren j).st.phase ≠ .startWait) →
            ∀ j, j ≠ i → { t.siren j with output := (s.siren j).output } = s.siren j) ∧
          (∀ l, s.srs.lastStart = some l → reached s.time (after l s.globalEntry.startGap) = false →
            (t.siren i).st = .startWait (some { pattern := p, duration := dur }) ∧ t.srs.lastStart = s.srs.lastStart ∧
            t.rpq = recorded [.sirenState i .startWait none] s) ∧
          ((∀ l, s.srs.lastStart = some l → reached s.time (after l s.globalEntry.startGap) = true) →
            (∀ j, (s.siren j).st.phase ≠ .startWait) →
            (t.siren i).st = .test p 0 (decide (((s.patternEntry p).slots[0]).out = 1))
              (some (s.time + BitVec.ofNat 32 (((s.patternEntry p).slots[0]).units.toNat * 50)))
              (s.time + BitVec.ofNat 32 dur) (s.siren i).fault.isSome ∧
            t.srs.lastStart = some s.time ∧
            t.rpq = recorded [.sirenState i .startWait none, .sirenState i .test (some p)] s))) ∧
  (∀ (s : State) (i : Fin 8),
    let x := s.siren i
    ((partnerOf s i = none) → (∀ j, partnerOf s j ≠ some i) → driveOutput i s = s.setSiren i { x with output := x.calls }) ∧
    ∀ j, Mutual s i j → ((s.siren j).output = true → (s.siren j).calls = true ∧ x.output = false) →
      driveOutput i s = (s.setSiren i { x with output := x.calls && !(s.siren j).output }).setSiren j
        { s.siren j with output := (s.siren j).output || (x.output && !x.calls && (s.siren j).calls) }) ∧
  ∀ (s : State) (i : Fin 8),
    (∀ p k w x ends seen, (s.siren i).st = .test p k w x ends seen → reached s.time ends = true →
      ∃ t, exec (.sirenTestEnd i) s = .next t ∧ t = { s with srs := t.srs, rpq := t.rpq } ∧
        (t.siren i).st = .off ∧ (t.siren i).output = false ∧ t.srs.lastStart = s.srs.lastStart ∧
        t.rpq = recorded [.sirenState i .off none, .testResult (.siren i) (if seen then .fail else .pass)] s ∧
        (∀ j, Mutual s i j → (s.siren i).output = true → (s.siren j).output = false → (t.siren j).output = (s.siren j).calls) ∧
        ∀ j, j ≠ i → { t.siren j with output := (s.siren j).output } = s.siren j) ∧
    ((∀ p k w x ends seen, (s.siren i).st = .test p k w x ends seen → reached s.time ends = false) →
      exec (.sirenTestEnd i) s = .next s)

/-! ### The configuration store -/

/-- CFGIN is accepted exactly when the keyswitch is in MAINTAIN, every latched level is NORMAL, no track is
active and no valve is SCHEDULED, WAITING or OPEN: the part is in CONFIGURE and every enabled trunk in HALT,
those that were running with cause SERVICE and the others as they were. -/
def Obligations.ConfigureEntered : Prop :=
  ∀ (tag : Byte) (s : State), Reaches .cfgin [] s →
    let quiet : Prop := s.cfs.key = true ∧ (∀ z, (s.zone z).latched = .normal) ∧ s.trc.tracks = [] ∧
      ∀ v, (s.valve v).st = .idle ∨ ∃ x seen, (s.valve v).st = .test x seen
    (¬ quiet → exec (.cfgin tag []) s = .next (answered .cfgin tag .refused [] s)) ∧
    (quiet → ∃ t, exec (.cfgin tag []) s = .next t ∧ t.lnk = replied .cfgin tag .ok [] s ∧
      t.cfs = { s.cfs with mode := .configure } ∧
      (∀ k, (s.trunkEntry k).enabled = true → ∀ c, (s.trunk k).prot = .halt c → t.trunk k = s.trunk k) ∧
      (∀ k, (s.trunkEntry k).enabled = true → (∀ c, (s.trunk k).prot ≠ .halt c) →
        t.trunk k = haltedTrunk (s.trunkEntry k) .service s.time (s.trunk k)) ∧
      SameBelow { s with lnk := t.lnk, cfs := t.cfs } t)

/-- CFGOUT is accepted exactly when the tables pass every check of R192: the part is ARMED, scanning released
and CONFIG_INVALID ended; otherwise it is REFUSED with the first failing check in the order of table, index
and code, and nothing else changes. The keyswitch turned to OPERATE in CONFIGURE is taken as a CFGOUT (R193):
tables that pass put the part into ARMED, others leave it in CONFIGURE with CONFIG_INVALID set and its urgent
record appended unless it stands; at any other time the keyswitch changes its position alone. That the INPUT record
stands before those of the keyswitch is the model's choice (log entry 30). -/
def Obligations.ConfigureLeft : Prop :=
  (∀ (tag : Byte) (s : State), Reaches .cfgout [] s →
    (¬ s.cfs.tables.Valid → ∃ c ∈ allChecks s, c.passes = false ∧
      (∀ d ∈ allChecks s, d.passes = false → c.table < d.table ∨ (c.table = d.table ∧
        (c.index < d.index ∨ (c.index = d.index ∧ c.code ≤ d.code)))) ∧
      exec (.cfgout tag []) s = .next (answered .cfgout tag .refused [byte c.table, byte c.index, byte c.code] s)) ∧
    (s.cfs.tables.Valid →
      let c := { s.cfs with mode := .armed, configInvalid := false }
      (s.dfe.released = true → exec (.cfgout tag []) s = .next
        { answered .cfgout tag .ok [] s with
          cfs := c, rpq := if s.cfs.configInvalid then recorded [.fault .configInvalid false] s else s.rpq }) ∧
      (s.dfe.released = false → ∃ t, exec (.cfgout tag []) s = .next t ∧ t.cfs = c ∧ t.dfe.released = true ∧
        t.lnk = replied .cfgout tag .ok [] s ∧ t.dfe.viewSet = s.dfe.viewSet ∧ t.dfe.viewPos = s.dfe.viewPos ∧
        t.afm = s.afm ∧ t.fiu = s.fiu ∧ t.pending = s.pending ∧ t.time = s.time ∧ t.draws = s.draws))) ∧
  ∀ (s : State) (i : Fin 32) (maintain : Bool), HandsOver s i .key maintain → s.cfs.key ≠ maintain →
    let c := exec (.debounceExpiry i) s
    let taken : State := s.setInput i (debouncedInput s i)
    let leaves : Prop := maintain = false ∧ s.cfs.mode = .configure
    (¬ leaves → c = .next { taken with cfs := { s.cfs with key := maintain }, rpq := recorded [.input i maintain] s }) ∧
    (leaves → ¬ s.cfs.tables.Valid → c = .next
      { taken with
        cfs := { s.cfs with key := false, configInvalid := true }
        rpq := recorded (.input i false :: if s.cfs.configInvalid then [] else [.fault .configInvalid true]) s }) ∧
    (leaves → s.cfs.tables.Valid →
      let armed := { s.cfs with key := false, mode := .armed, configInvalid := false }
      (s.dfe.released = true → c = .next
        { taken with
          cfs := armed, rpq := recorded (.input i false :: if s.cfs.configInvalid then [.fault .configInvalid false] else []) s }) ∧
      (s.dfe.released = false → ∃ t, c = .next t ∧ t.cfs = armed ∧ t.dfe.released = true ∧ t.fiu = taken.fiu ∧
        t.lnk = s.lnk ∧ t.afm = s.afm ∧ t.pending = s.pending ∧ t.time = s.time ∧ t.draws = s.draws))

/-- Every TWRITE is checked and taken as R191 says, entry by entry of its own table; the taken entry and what its owner
does with it, the write function of its table, are the whole effect but for the reply. The order in which the blocks
act within a write is the model's choice (log entries 14 to 16, 23, 27 and 30). -/
def Obligations.EveryTableTakesItsEntry : Prop :=
  ∀ s : State,
    Takes 0 .twriteTrunk true TrunkEntry.decode (fun i e x => { x with trunk := x.trunk.set i e }) writeTrunk s ∧
    Takes 1 .twriteBranch true BranchEntry.decode (fun i e x => { x with branch := x.branch.set i e }) writeBranch s ∧
    Takes 2 .twriteStation true StationEntry.decode (fun i e x => { x with station := x.station.set i e }) writeStation s ∧
    Takes 3 .twriteValve true ValveEntry.decode (fun i e x => { x with valve := x.valve.set i e }) writeValve s ∧
    Takes 4 .twriteSupply true SupplyEntry.decode (fun (_ : Fin 1) e x => { x with supply := e }) writeSupply s ∧
    Takes 5 .twriteTrip false TripEntry.decode (fun i e x => { x with trip := x.trip.set i e }) writeTrip s ∧
    Takes 6 .twriteZone false ZoneEntry.decode (fun i e x => { x with zone := x.zone.set i e }) writeZone s ∧
    Takes 7 .twriteInput false InputEntry.decode (fun i e x => { x with input := x.input.set i e }) writeInput s ∧
    Takes 8 .twriteDoor false DoorEntry.decode (fun i e x => { x with door := x.door.set i e }) writeDoor s ∧
    Takes 9 .twriteSiren false SirenEntry.decode (fun i e x => { x with siren := x.siren.set i e }) writeSiren s ∧
    Takes 10 .twritePattern false PatternEntry.decode (fun i e x => { x with pattern := x.pattern.set i e }) writePattern s ∧
    Takes 11 .twriteGlobal false GlobalEntry.decode (fun (_ : Fin 1) e x => { x with global := e }) writeGlobal s

/-- What the owners do with a taken entry: nothing at a VALVE or SUPPLY write; a TRIP write reaches the
escalation path alone; a BRANCH write the machine stops and the causes (R6, R97); a trunk, station, zone or door
disabled takes its disabled state; a trunk enabled begins in HALT with cause SERVICE, its rings empty, and one that
stays enabled takes its changed times and velocities (R5, R99, R109, R117); an enabled station selects its scan state
from the new entry, its run and its test ended (R22, R23); a zone enabled forms its levels (R120); an INPUT write
forms the active state of a changed role or sense and the causes it touches (R133), or ends a debounce that is now
over; a GLOBAL write moves the hold timer, the duty windows, the sampler's counter and the start slot (R25, R92,
R159, R185). DOOR, PATTERN and SIREN writes that keep an entry enabled stand with their blocks. That a disabled
door's DOOR_STATE stands before its FAULT clear is the model's choice (log entry 19). -/
def Obligations.OwnersActOnTakenEntries : Prop :=
  (∀ (v : Fin 12) (e : ValveEntry) (s : State),
    writeValve v e s = s.setTables { s.cfs.tables with valve := s.cfs.tables.valve.set v e }) ∧
  (∀ (e : SupplyEntry) (s : State), writeSupply 0 e s = s.setTables { s.cfs.tables with supply := e }) ∧
  (∀ (k : Fin 24) (e : TripEntry) (s : State),
    SameBelow (s.setTables { s.cfs.tables with trip := s.cfs.tables.trip.set k e }) (writeTrip k e s)) ∧
  (∀ (k : Fin 4) (e : TrunkEntry) (s : State), e.enabled ≠ (s.trunkEntry k).enabled →
    let t := writeTrunk k e s
    t.air k = TrunkAir.reset ∧ t.trunk k =
      (if e.enabled then
        { Trunk.reset with
          prot := .halt .service, gateOut := e.gatePresent, haltEntry := s.time, slotStart := s.time
          nextAdvance := some (s.time + BitVec.ofNat 32 e.slotLen), fanIn := (s.trunk k).fanIn, gateIn := (s.trunk k).gateIn
          fanQuiet := !(s.trunk k).fanIn
          fanStop := if (s.trunk k).fanIn then some (s.time + BitVec.ofNat 32 (e.fanStopTimeout * 1000)) else none }
      else { Trunk.reset with prot := .halt .none, fanIn := (s.trunk k).fanIn, gateIn := (s.trunk k).gateIn })) ∧
  (∀ (k : Fin 4) (e : TrunkEntry) (s : State), e.enabled = true → (s.trunkEntry k).enabled = true →
    let old := s.trunkEntry k
    let a := s.air k
    let b := (writeTrunk k e s).air k
    let x := s.trunk k
    let y := (writeTrunk k e s).trunk k
    let newHold : Time := a.faultStart.getD 0 + BitVec.ofNat 32 (e.velHold * 1000)
    let holds : Prop := a.stage = .hold ∧ a.faultStart ≠ none ∧ old.velHold ≠ e.velHold
    let moves : Prop := holds ∧ reached s.time newHold = true ∨ a.stage = .fallback ∧ old.fallback ≠ e.fallback
    let stop : Time := x.haltEntry + BitVec.ofNat 32 (e.fanStopTimeout * 1000)
    let slot : Time := x.slotStart + BitVec.ofNat 32 e.slotLen
    b.faultStart = a.faultStart ∧ (moves → b.vf = e.fallback ∧ b.stage = .fallback) ∧
    (¬ moves → b.vf = a.vf ∧ b.stage = a.stage ∧ b.holdExpiry = (if a.stage = .hold ∧ a.faultStart ≠ none ∧ old.velHold ≠ e.velHold
        then some newHold else a.holdExpiry) ∧
      b.stalled = (if old.vStall = e.vStall then a.stalled else
        if a.vf < e.vStall then true else if e.vStall + 50 ≤ a.vf then false else a.stalled)) ∧
    ∀ c, x.prot = .halt c →
      y.prot = .halt c ∧ y.fanOut = x.fanOut ∧ y.gateOut = e.gatePresent ∧ y.fanIn = x.fanIn ∧ y.haltEntry = x.haltEntry ∧
      (old.fanStopTimeout = e.fanStopTimeout ∨ x.fanStop = none →
        y.fanStop = x.fanStop ∧ y.fanQuiet = x.fanQuiet ∧ y.fanFault = x.fanFault) ∧
      (old.fanStopTimeout ≠ e.fanStopTimeout → x.fanStop ≠ none →
        (reached s.time stop = false → y.fanStop = some stop ∧ y.fanQuiet = x.fanQuiet ∧ y.fanFault = x.fanFault) ∧
        (reached s.time stop = true → y.fanStop = none ∧ y.fanQuiet = true ∧ y.fanFault = true)) ∧
      (old.slotLen = e.slotLen → y.slot = x.slot ∧ y.nextAdvance = x.nextAdvance ∧ y.newRing = x.newRing) ∧
      (old.slotLen ≠ e.slotLen → reached s.time slot = false →
        y.slot = x.slot ∧ y.nextAdvance = some slot ∧ y.newRing = x.newRing ∧ y.missedRing = x.missedRing) ∧
      (old.slotLen ≠ e.slotLen → reached s.time slot = true →
        let n : Fin 8 := x.slot + 1
        y.slot = n ∧ y.slotStart = s.time ∧ y.nextAdvance = some (s.time + BitVec.ofNat 32 e.slotLen) ∧
          y.newRing = x.newRing.set n 0 ∧ y.missedRing = x.missedRing.set n 0)) ∧
  (∀ (b : Fin 16) (e : BranchEntry) (s : State),
    let t := writeBranch b e s
    SameBelow (s.setTables { s.cfs.tables with branch := s.cfs.tables.branch.set b e }) t ∧
      (∀ z, (t.zone z).causes = causesOf t z) ∧ ∀ c, MachineStopOk t c) ∧
  (∀ (i : Fin 16) (e : StationEntry) (s : State), (s.station i).run ≠ none ∨ (s.station i).standing = false →
    let x := s.station i
    let y := (writeStation i e s).station i
    let on : Prop := e.enabled = true ∧ (s.trunkEntry e.pos.trunk).enabled = true ∧ s.dfe.released = true
    let rests : Prop := ∃ c, (s.trunk e.pos.trunk).prot = .halt c
    let now : Scan := .duty s.time true (s.time + BitVec.ofNat 32 s.globalEntry.dutyInterval)
    y.run = none ∧ y.standing = false ∧ y.loop = x.loop ∧ (¬ on → y.scan = .off) ∧
    ((∃ a b, x.scan = .test a b) → y.lastResult = .aborted ∧ y.emitter = false) ∧
    ((¬ ∃ a b, x.scan = .test a b) → y.lastResult = x.lastResult ∧ y.emitter = x.emitter) ∧
    (x.standing = false → on →
      (x.scan = .off → ∀ c, x.loop = some c → y.scan = .fault c) ∧
      (x.scan = .off ∧ x.loop = none ∨ x.scan = .cont ∨ (∃ a b, x.scan = .test a b) →
        (rests → y.scan = now) ∧ (¬ rests → y.scan = .cont)) ∧
      (∀ a b c, x.scan = .duty a b c → (rests → y.scan = x.scan) ∧ (¬ rests → y.scan = .cont)) ∧
      (∀ c, x.scan = .fault c → y.scan = x.scan))) ∧
  (∀ (z : Fin 16) (e : ZoneEntry) (s : State), (s.zoneEntry z).enabled = true → e.enabled = false →
    let x := (writeZone z e s).zone z
    x.current = .normal ∧ x.latched = .normal ∧ x.ack = false ∧ x.silenced = false ∧ x.hush = .normal ∧
      x.causes.manual = (s.zone z).causes.manual) ∧
  (∀ (z : Fin 16) (e : ZoneEntry) (s : State),
    let s1 := s.setTables { s.cfs.tables with zone := s.cfs.tables.zone.set z e }
    let t := writeZone z e s
    ((s.zoneEntry z).enabled = e.enabled → t = s1) ∧
    ((s.zoneEntry z).enabled = false → e.enabled = true → SameBelow s1 t ∧ (t.zone z).causes = causesOf t z ∧
      (t.zone z).current = (causesOf t z).top ∧ (t.zone z).current.rank ≤ (t.zone z).latched.rank)) ∧
  (∀ (i : Fin 32) (e : InputEntry) (s : State),
    let old := s.inputEntry i
    let x := s.input i
    let s1 := s.setTables { s.cfs.tables with input := s.cfs.tables.input.set i e }
    let t := writeInput i e s
    let due : Prop := old.debounce ≠ e.debounce ∧ ∃ d, x.differs = some d ∧ reached s.time (d + BitVec.ofNat 32 e.debounce) = true
    let operated : Bool := match e.sense with
      | .activeHigh => x.debounced
      | .activeLow => !x.debounced
      | .rising | .falling => false
    let named (z : Fin 16) : Prop := old.role = .call z ∨ old.role = .heat z ∨ e.role = .call z ∨ e.role = .heat z
    (old.role = e.role → old.sense = e.sense → (¬ due → t = s1) ∧ (due → exec (.debounceExpiry i) s1 = .next t)) ∧
    (old.role ≠ e.role ∨ old.sense ≠ e.sense → ¬ due →
      t.fiu = s.fiu.set i { x with latch := false, active := operated } ∧ t.cfs.tables = s1.cfs.tables ∧ t.time = s.time ∧
      t.lnk = s.lnk ∧ t.afm = s.afm ∧ t.pending = s.pending ∧ ∀ z, named z → (t.zone z).causes = causesOf t z)) ∧
  (∀ (e : GlobalEntry) (s : State),
    let old := s.globalEntry
    let s1 := s.setTables { s.cfs.tables with global := e }
    let t := writeGlobal 0 e s
    t = { s1 with dfe := t.dfe, spa := t.spa, srs := t.srs, rpq := t.rpq } ∧ t.rpq.bank = s.rpq.bank ∧
    t.spa = { s.spa with samplerCount := if s.spa.samplerCount ≤ e.samplerN - 1 then s.spa.samplerCount else e.samplerN - 1 } ∧
    t.dfe = { s.dfe with stations := t.dfe.stations } ∧
    (∀ i, t.station i = { s.station i with
      scan :=
        (match (s.station i).scan with
        | .duty opened isOpen nextOpen =>
          let moved := opened + BitVec.ofNat 32 e.dutyInterval
          if old.dutyInterval = e.dutyInterval then .duty opened isOpen nextOpen
          else if reached s.time moved then .duty s.time true (s.time + BitVec.ofNat 32 e.dutyInterval)
          else .duty opened isOpen moved
        | x => x) }) ∧
    (old.startGap = e.startGap → t.srs = s.srs) ∧
    (old.startGap ≠ e.startGap → ∃ u, exec .startSlotFree s1 = .next u ∧ t.srs = u.srs) ∧
    (old.startGap = e.startGap ∨ (∀ i, (s.siren i).st.phase ≠ .startWait) →
      let hold : HoldTimer :=
        match s.rpq.holdTimer with
        | .running began expiry =>
          let moved := began + BitVec.ofNat 32 e.holdTime
          if old.holdTime = e.holdTime then .running began expiry
          else if reached s.time moved then .expired else .running began moved
        | h => h
      t.rpq = { s.rpq with holdTimer := hold, attn := t.rpq.attn } ∧
      (t.rpq.attn = true ↔ s.rpq.queue ≠ [] ∧
        ((∃ r ∈ s.rpq.queue, r.urgent = true) ∨ e.fillMark ≤ s.rpq.queue.length ∨ hold = .expired)))) ∧
  (∀ (d : Fin 16) (e : DoorEntry) (s : State), (s.doorEntry d).enabled = true → e.enabled = false →
    writeDoor d e s =
      { s.setTables { s.cfs.tables with door := s.cfs.tables.door.set d e } with
        drc := s.drc.set d { s.door d with st := .disabled, holder := false }
        rpq := recorded (.doorState d .disabled :: if (s.door d).st = .blocked then [.fault (.door d) false] else []) s })

/-- STORE is REFUSED under the store lock, BUSY while a store runs, and otherwise spoils the stored CRC and
writes the tables as they stand; its completion records PASS with a good copy, or FAIL with a bad copy and
the lock; RSTRT is BUSY while a store runs and otherwise sets the restart that follows its reply.
The model's choices: the STORE_INVALID clear stands before STORE_DONE (log entry 19), and a command whose condition
does not hold changes nothing (log entry 4). -/
def Obligations.StoreAndRestartRequests : Prop :=
  ∀ (tag : Byte) (s : State),
    let running : Prop := ∃ t, s.cfs.storeState = .running t
    (Reaches .store [] s →
      (s.cfs.storeLock = true → exec (.store tag []) s = .next (answered .store tag .refused [] s)) ∧
      (s.cfs.storeLock = false → running → exec (.store tag []) s = .next (answered .store tag .busy [] s)) ∧
      (s.cfs.storeLock = false → ¬ running → exec (.store tag []) s = .next
        { answered .store tag .ok [] s with
          cfs := { s.cfs with storeState := .running s.time, copy := s.cfs.tables, copyGood := false } })) ∧
    (Reaches .rstrt [] s →
      (running → exec (.rstrt tag []) s = .next (answered .rstrt tag .busy [] s)) ∧
      (¬ running → exec (.rstrt tag []) s = .next
        { s with lnk := { replied .rstrt tag .ok [] s with restartPending := true } })) ∧
    (running →
      exec (.storeCompletion true) s = .next
        { s with
          cfs := { s.cfs with storeState := .pass, copyGood := true, storeInvalid := false }
          rpq := recorded ((if s.cfs.storeInvalid then [.fault .storeInvalid false] else []) ++ [.storeDone true]) s } ∧
      exec (.storeCompletion false) s = .next
        { s with
          cfs := { s.cfs with storeState := .fail, copyGood := false, storeLock := true }
          rpq := recorded [.storeDone false] s }) ∧
    (¬ running → ∀ m, exec (.storeCompletion m) s = .next s)

/-- Every entry a write can take is read back as it was written: the decoder of each table is undone by the
encoder TREAD uses, so no bit of a taken entry is lost. -/
def Obligations.TakenEntriesReadBackAsWritten : Prop :=
  (∀ b e, TrunkEntry.decode b = some e → e.encode = b) ∧ (∀ b e, BranchEntry.decode b = some e → e.encode = b) ∧
  (∀ b e, StationEntry.decode b = some e → e.encode = b) ∧ (∀ b e, ValveEntry.decode b = some e → e.encode = b) ∧
  (∀ b e, SupplyEntry.decode b = some e → e.encode = b) ∧ (∀ b e, TripEntry.decode b = some e → e.encode = b) ∧
  (∀ b e, ZoneEntry.decode b = some e → e.encode = b) ∧ (∀ b e, InputEntry.decode b = some e → e.encode = b) ∧
  (∀ b e, DoorEntry.decode b = some e → e.encode = b) ∧ (∀ b e, SirenEntry.decode b = some e → e.encode = b) ∧
  (∀ b e, PatternEntry.decode b = some e → e.encode = b) ∧ ∀ b e, GlobalEntry.decode b = some e → e.encode = b

/-! ### Airflow -/

/-- A good reading moves v_f by one eighth of its difference, never past the reading, ends a velocity fault, and
sets STALLED by its hysteresis; an out-of-range one begins the fault; at the hold expiry v_f takes the fallback
velocity. A changed v_f has the run condition of a STARTING trunk tested (R111) and every target re-evaluated
(R103), the VELOCITY_BELOW entries on the new v_f; what that makes of the trunks is said where no trip entry reads a
zone level. A rise of STALLED extends the windows and sprays of the trunk; otherwise nothing below the escalation
path moves. A rise (R84) opens the trunk's SCHEDULED valves now, in the order of the classes and then of the
indices, each granted or left WAITING, the flow timers following a rise of the units in use from 0 (R85, R87), and
leaves idle valves and those of other trunks alone. Readings before the load or of a disabled trunk, and a hold that
is not due, change nothing. A command whose condition does not hold changes nothing: the model's choice, log entry
4. -/
def Obligations.AirflowReadings : Prop :=
  ∀ (s : State) (k : Fin 4),
    let a := s.air k
    let e := s.trunkEntry k
    let taken : Prop := s.cfs.mode ≠ .start ∧ e.enabled = true
    let stalledBy (v : Nat) : Bool := if v < e.vStall then true else if e.vStall + 50 ≤ v then false else a.stalled
    let reaches (v : Nat) (stalled : Bool) (t : State) : Prop :=
      (t.air k).vf = v ∧ (t.air k).stalled = stalled ∧ (∀ j, j ≠ k → t.air j = s.air j) ∧
      t.fiu = s.fiu ∧ t.lnk = s.lnk ∧ t.cfs = s.cfs ∧ t.dfe.viewPos = s.dfe.viewPos ∧ t.pending = s.pending ∧ t.time = s.time ∧
      (a.stalled = true ∨ stalled = false → SameBelow { s with afm := t.afm } t) ∧
      (a.stalled = false → stalled = true →
        (let rises : Prop := s.spa.units = 0 ∧ 0 < t.spa.units
         s.spa.units ≤ t.spa.units ∧ t.spa.flow = s.spa.flow ∧
         t.spa.proveExpiry = (if rises then some (s.time + BitVec.ofNat 32 s.supplyEntry.proveTime) else s.spa.proveExpiry) ∧
         t.spa.unexpExpiry = (if rises then none else s.spa.unexpExpiry)) ∧
        t.trc.tracks.map Track.next = s.trc.tracks.map (fun q => if q.trunk = k then
          q.next.map (fun w => { w with late := laterOf w.late (s.time + BitVec.ofNat 32 e.stallHold) }) else q.next) ∧
        (∀ v sch g l c, (s.valveEntry v).pos.trunk = k → (s.valve v).st = .spraying sch g l c → (t.valve v).st =
          .spraying { sch with closeTime := laterOf sch.closeTime (s.time + BitVec.ofNat 32 e.stallHold) } g l c) ∧
        (∀ v sch w, (s.valveEntry v).pos.trunk = k → (s.valve v).st = .waiting sch w → (t.valve v).st =
          .waiting { sch with closeTime := laterOf sch.closeTime (s.time + BitVec.ofNat 32 e.stallHold) } w) ∧
        (∀ v, (s.valve v).st = .idle ∨ ((s.valveEntry v).pos.trunk ≠ k ∧ ∀ x seen, (s.valve v).st ≠ .test x seen) →
          t.valve v = s.valve v) ∧
        ∀ v sch, (s.valveEntry v).pos.trunk = k → (s.valve v).st = .scheduled sch →
          let now : Schedule :=
            { sch with openTime := s.time, closeTime := laterOf sch.closeTime (s.time + BitVec.ofNat 32 e.stallHold) }
          let place (w : Fin 12) : Nat :=
            match (s.valveEntry w).cls with
            | .filter => 0
            | .trunk => 1
            | .branch => 2
          let sprays : Prop := (t.valve v).st = .spraying now s.time false (s.valveEntry v).cls ∧ (t.valve v).output = true
          let waits : Prop := t.valve v = { st := .waiting now s.time, output := false }
          (sprays ∨ waits) ∧
          ((∀ w y, w ≠ v → (s.valveEntry w).pos.trunk = k → (s.valve w).st = .scheduled y →
              place v < place w ∨ (place v = place w ∧ v < w)) →
            (Fits s s.spa.units s.spa.nonFilter v → sprays) ∧ (¬ Fits s s.spa.units s.spa.nonFilter v → waits)))
    (∀ value, ¬ taken → exec (.goodReading k value) s = .next s) ∧
    (∀ value : Nat, taken →
      let r : Nat := min value 5000
      let v := ((a.vf : Int) + ((r : Int) - (a.vf : Int) + 4) / 8).toNat
      min a.vf r ≤ v ∧ v ≤ max a.vf r ∧
      ∃ t, exec (.goodReading k value) s = .next t ∧ reaches v (if v = a.vf then a.stalled else stalledBy v) t ∧
        (v ≠ a.vf → TrunksFollow (runTested k (s.setAir k { a with vf := v })) t) ∧
        (t.air k).stage = .clear ∧
        (a.stage ≠ .clear → (t.air k).faultStart = none ∧ (t.air k).holdExpiry = none) ∧
        (v = a.vf → t = { s with
          afm := t.afm, rpq := if a.stage = .clear then s.rpq else recorded [.fault (.velocity k) false] s })) ∧
    (taken → a.stage = .clear → exec (.outOfRangeReading k) s = .next
      { s.setAir k
        { a with stage := .hold, faultStart := some s.time, holdExpiry := some (s.time + BitVec.ofNat 32 (e.velHold * 1000)) } with
        rpq := recorded [.fault (.velocity k) true] s }) ∧
    (¬ taken ∨ a.stage ≠ .clear → exec (.outOfRangeReading k) s = .next s) ∧
    (∀ x, a.holdExpiry = some x → reached s.time x = true → ∃ t, exec (.holdExpiry k) s = .next t ∧
      reaches e.fallback (stalledBy e.fallback) t ∧
      TrunksFollow (runTested k (s.setAir k { a with vf := e.fallback })) t ∧ (t.air k).stage = .fallback ∧ (t.air k).holdExpiry = none ∧
      (t.air k).faultStart = a.faultStart) ∧
    ((∀ x, a.holdExpiry = some x → reached s.time x = false) → exec (.holdExpiry k) s = .next s)

/-! ### Detector channels -/

/-- A sample of a scanning station: below the threshold it is only kept; at the threshold it opens a run and is a
detection, matched to the oldest track that awaits it, which it carries on or, at the inlet after an open spray,
ends SURVIVED, or counted as a new track with an id no track bears, its next window and its spray scheduled and one
more arrival in the current slot of its trunk's new-track ring, at most 255 (R100); every target is re-evaluated for an
arrival and for a survivor (R103), and no trunk moves for another sighting; an open
run takes the higher peak, and ends below the end level with its DETECT record and its band counted. In TEST a
sample at the test threshold is PASS. Outside a window, in OFF and in FAULT, no sample is taken. A command whose
condition does not hold changes nothing: the model's choice, log entry 4. -/
def Obligations.DetectorSamples : Prop :=
  ∀ (s : State) (i : Fin 16) (value : BitVec 12),
    let n := value.toNat
    let x := s.station i
    let e := s.stationEntry i
    let y := { x with lastSample := n, lastSampleTime := s.time }
    let c : Instr := .detectorSample i value
    let sampling : Prop := x.scan = .cont ∨ ∃ o nx, x.scan = .duty o true nx ∧ (s.time - o).toNat < 20
    let testing : Prop := ∃ st ex, x.scan = .test st ex ∧ later s.time st = true ∧ later s.time ex = false
    let awaits (q : Track) : Prop := ∃ w, q.next = some w ∧ w.station = i ∧ later w.early s.time = false ∧ later s.time w.late = false
    (¬ sampling → ¬ testing → exec c s = .next s) ∧
    (sampling → x.run = none → n < e.threshold → exec c s = .next (s.setStation i y)) ∧
    (sampling → x.run = none → e.threshold ≤ n → TracksOk s → ∃ t id, exec c s = .next t ∧
      (let k := s.trunk e.pos.trunk
       let m := k.newRing[k.slot]
       let arrived := s.setTrunk e.pos.trunk { k with newRing := k.newRing.set k.slot (if m < 255 then m + 1 else m) }
       (∀ q ∈ s.trc.tracks, ¬ awaits q) → (∀ j, (t.trunk j).steady = (arrived.trunk j).steady) ∧ TrunksFollow arrived t) ∧
      (∀ a q b, s.trc.tracks = a ++ q :: b → awaits q → (∀ p ∈ a, ¬ awaits p) →
        let ended : Prop := isInlet s i = true ∧ (q.outcome = .opened ∨ 0 < q.passes)
        let survived := s.setTrunk q.trunk { s.trunk q.trunk with survivor := true }
        (¬ ended → t.tkc = s.tkc) ∧
        (ended → (∀ j, (t.trunk j).steady = (survived.trunk j).steady) ∧ TrunksFollow survived t)) ∧
      (t.station i).steady = { y with scan := .off, run := some { detected := s.time, peak := n, track := some id } } ∧
      (∀ a q b, s.trc.tracks = a ++ q :: b → awaits q → (∀ p ∈ a, ¬ awaits p) → id = q.id ∧ t.trc.idCounter = s.trc.idCounter) ∧
      ((∀ q ∈ s.trc.tracks, ¬ awaits q) → t.trc.idCounter = id + 1 ∧
        (t.rpq.bank.trunk[e.pos.trunk]).newTracks = (s.rpq.bank.trunk[e.pos.trunk]).newTracks + 1 ∧
        ∀ q ∈ (if s.trc.tracks.length < 32 then s.trc.tracks else s.trc.tracks.tail), q.id ≠ id) ∧
      (∀ j, (∀ q ∈ s.trc.tracks, ¬ awaits q) → nextStation s i = some j → ∃ k, t.trc.tracks.getLast? = some k ∧
        k.id = id ∧ k.trunk = e.pos.trunk ∧ k.origin = i ∧ k.originTime = s.time ∧ k.last = i ∧ k.lastTime = s.time ∧ k.peak = 0 ∧
        k.sightings = 1 ∧ k.passes = 0 ∧ k.sprayClosed = false ∧ k.valve = requestedValve s i ∧
        k.next = some (arrivalWindow s i s.time j)) ∧
      (∀ a q b j, s.trc.tracks = a ++ q :: b → awaits q → (∀ p ∈ a, ¬ awaits p) → isInlet s i = false → nextStation s i = some j →
        ∃ k ∈ t.trc.tracks, k.id = q.id ∧ k.last = i ∧ k.lastTime = s.time ∧ k.peak = q.peak ∧
          k.sightings = (if q.sightings < 255 then q.sightings + 1 else q.sightings) ∧
          k.passes = (if q.outcome = .opened ∧ q.passes < 255 then q.passes + 1 else q.passes) ∧
          k.valve = (match requestedValve s i with
            | some v => some v
            | none => q.valve) ∧
          k.next = some (arrivalWindow s i s.time j)) ∧
      (∀ a q b, s.trc.tracks = a ++ q :: b → awaits q → (∀ p ∈ a, ¬ awaits p) → isInlet s i = true → q.outcome = .opened ∨ 0 < q.passes →
        (∀ k ∈ t.trc.tracks, k.id ≠ q.id) ∧ (t.trunk q.trunk).survivor = true ∧
          (t.rpq.bank.trunk[q.trunk]).survived = (s.rpq.bank.trunk[q.trunk]).survived + 1) ∧
      (∀ v, (∀ q ∈ s.trc.tracks, ¬ awaits q) ∨ isInlet s i = false → requestedValve s i = some v → (s.valve v).st = .idle →
        let r := spraySchedule s i v s.time id
        later r.openTime s.time = true → (t.valve v).st =
          .scheduled { openTime := r.openTime, closeTime := r.closeTime, lateStart := r.lateStart, merged := 1, requests := [id] }) ∧
      (∀ v, (∀ q ∈ s.trc.tracks, ¬ awaits q) ∨ isInlet s i = false → requestedValve s i = some v →
        ∃ m, m.time = s.time ∧ m.cfs = s.cfs ∧ { m.spa with sampler := s.spa.sampler } = s.spa ∧
          t.spa.valves = (requestSpray v (spraySchedule s i v s.time id) m).spa.valves) ∧
      t.afm = s.afm ∧ t.fiu = s.fiu ∧ t.lnk = s.lnk ∧ t.cfs = s.cfs ∧ t.dfe.viewPos = s.dfe.viewPos ∧
      t.pending = s.pending ∧ t.time = s.time) ∧
    (∀ r, sampling → x.run = some r → e.threshold - e.hysteresis ≤ n →
      exec c s = .next (s.setStation i { y with run := some { r with peak := max r.peak n } })) ∧
    (∀ r, sampling → x.run = some r → n < e.threshold - e.hysteresis →
      let g := s.globalEntry
      let b := s.rpq.bank.station[i]
      let counted : StationCounters :=
        if r.peak < g.b1 then { b with band0 := b.band0 + 1 } else if r.peak < g.b2 then { b with band1 := b.band1 + 1 }
        else if r.peak < g.b3 then { b with band2 := b.band2 + 1 } else { b with band3 := b.band3 + 1 }
      let id := r.track.getD 0
      let ended : State :=
        { s.setStation i { y with run := none, standing := false } with
          trc := { s.trc with tracks := s.trc.tracks.map (fun q => if q.id = id then { q with peak := max q.peak r.peak } else q) }
          rpq := { recorded [.detect i r.detected r.peak (min 65535 (s.time - r.detected).toNat) id] s with
            bank := { s.rpq.bank with station := s.rpq.bank.station.set i counted } } }
      ∃ t, exec c s = .next t ∧ SameBelow ended t ∧ (x.standing = false → t = ended) ∧ (x.standing = true → TrunksFollow ended t)) ∧
    (testing → n < e.testThreshold → exec c s = .next (s.setStation i y)) ∧
    (testing → e.testThreshold ≤ n → exec c s = .next
      { s.setStation i { y with scan := selectedScan s i, lastResult := .pass, emitter := false } with
        rpq := recorded [.testResult (.head i) .pass] s })

/-- Duty windows open one interval after another and end after 20 ms, with a run open in them, and a standing light
that ends with its run takes its FIRE cause with it; a run that reaches the standing time becomes a standing light,
with its FIRE cause in the station's zone and its count; every target is re-evaluated at both (R103). What is not
due changes nothing. The model's choices: a window opens at the time the event is taken and the next one an interval
from then (log entry 24), and a command whose condition does not hold changes nothing (log entry 4). -/
def Obligations.DutyWindowsAndStandingLights : Prop :=
  ∀ (s : State) (i : Fin 16),
    let x := s.station i
    let next := s.time + BitVec.ofNat 32 s.globalEntry.dutyInterval
    (∀ o n, x.scan = .duty o false n → reached s.time n = true →
      exec (.dutyWindowOpen i) s = .next (s.setStation i { x with scan := .duty s.time true next })) ∧
    ((∀ o n, x.scan = .duty o false n → reached s.time n = false) → exec (.dutyWindowOpen i) s = .next s) ∧
    (∀ o n, x.scan = .duty o true n → reached s.time (o + 20) = true →
      (x.run = none → exec (.dutyWindowEnd i) s = .next (s.setStation i { x with scan := .duty o false n })) ∧
      (∀ r, x.run = some r → x.standing = false → ∃ t bank, exec (.dutyWindowEnd i) s = .next t ∧
        t = { s.setStation i { x with scan := .duty o false n, run := none } with
          trc := { s.trc with tracks := s.trc.tracks.map (fun q =>
            if q.id = r.track.getD 0 then { q with peak := max q.peak r.peak } else q) }
          rpq := { recorded [.detect i r.detected r.peak (min 65535 (o + 20 - r.detected).toNat) (r.track.getD 0)] s with
            bank := { s.rpq.bank with station := bank } } } ∧ ∀ j : Fin 16, j ≠ i → bank[j] = s.rpq.bank.station[j]) ∧
      (∀ r, x.run = some r → x.standing = true → ∃ t bank,
        let ended : State :=
          { s.setStation i { x with scan := .duty o false n, run := none, standing := false } with
            trc := { s.trc with tracks := s.trc.tracks.map (fun q =>
              if q.id = r.track.getD 0 then { q with peak := max q.peak r.peak } else q) }
            rpq := { recorded [.detect i r.detected r.peak (min 65535 (o + 20 - r.detected).toNat) (r.track.getD 0)] s with
              bank := { s.rpq.bank with station := bank } } }
        exec (.dutyWindowEnd i) s = .next t ∧ SameBelow ended t ∧ AppendsTo ended t ∧ TrunksFollow ended t ∧
        (t.zone (stationZone s i)).causes.standing =
          (if ∃ j, j ≠ i ∧ (s.station j).standing = true ∧ stationZone s j = stationZone s i then .fire else .normal) ∧
        ∀ j : Fin 16, j ≠ i → bank[j] = s.rpq.bank.station[j])) ∧
    ((∀ o n, x.scan = .duty o true n → reached s.time (o + 20) = false) → exec (.dutyWindowEnd i) s = .next s) ∧
    (∀ r, x.run = some r → x.standing = false → reached s.time (r.detected + BitVec.ofNat 32 (s.stationEntry i).standingTime) = true →
      let b := s.rpq.bank.station[i]
      let lit : State :=
        { s.setStation i { x with standing := true } with
          rpq := { s.rpq with bank := { s.rpq.bank with station := s.rpq.bank.station.set i { b with standing := b.standing + 1 } } } }
      ∃ t, exec (.standingTimeReached i) s = .next t ∧ SameBelow lit t ∧ TrunksFollow lit t ∧
        (t.zone (stationZone s i)).causes.standing = .fire ∧
        ((s.zoneEntry (stationZone s i)).enabled = true → (t.zone (stationZone s i)).current = .fire ∧
          (t.zone (stationZone s i)).latched = .fire)) ∧
    ((x.standing = true ∨ ∀ r, x.run = some r → reached s.time (r.detected + BitVec.ofNat 32 (s.stationEntry i).standingTime) = false) →
      exec (.standingTimeReached i) s = .next s)

/-- A loop fault puts a sampling station into FAULT: its run is cut without a DETECT record, a test FAILs, the fault
is counted and no track awaits a spark there any more: each that did (R51) awaits it at the next healthy station
below, ends where that window has passed already or where neither a station nor its spray is left to wait for, and
the others are as they were. A standing light ends, and every target is re-evaluated at its end alone; a recovery
puts it back into the state selected now. In OFF and in FAULT a fault, and outside FAULT a recovery, is only the
loop's own condition. -/
def Obligations.LoopSupervision : Prop :=
  ∀ (s : State) (i : Fin 16) (c : LoopFault),
    let x := s.station i
    let resting : Prop := x.scan = .off ∨ ∃ d, x.scan = .fault d
    (resting → exec (.loopFault i c) s = .next (s.setStation i { x with loop := some c })) ∧
    (¬ resting → ∃ t, exec (.loopFault i c) s = .next t ∧ (t.station i).scan = .fault c ∧ (t.station i).loop = some c ∧
      (t.station i).run = none ∧ (t.station i).standing = false ∧ (t.station i).lastSample = x.lastSample ∧
      ((∃ a b, x.scan = .test a b) → (t.station i).lastResult = .fail ∧ (t.station i).emitter = false) ∧
      ((¬ ∃ a b, x.scan = .test a b) → (t.station i).lastResult = x.lastResult ∧ (t.station i).emitter = x.emitter) ∧
      (t.rpq.bank.station[i]).faults = (s.rpq.bank.station[i]).faults + 1 ∧
      (∀ q ∈ t.trc.tracks, ∀ w, q.next = some w → w.station ≠ i) ∧
      (TracksOk s → ∀ q ∈ s.trc.tracks,
        let ended : Prop := ∀ k ∈ t.trc.tracks, k.id ≠ q.id
        ((∀ w, q.next = some w → w.station ≠ i) → q ∈ t.trc.tracks) ∧
        ∀ w, q.next = some w → w.station = i →
          (∀ j, nextStation s i = some j →
            let moved := arrivalWindow s q.last q.lastTime j
            (later s.time moved.late = false → { q with next := some moved } ∈ t.trc.tracks) ∧
            (later s.time moved.late = true → ended)) ∧
          (nextStation s i = none → (q.Waits → { q with next := none } ∈ t.trc.tracks) ∧ (¬ q.Waits → ended))) ∧
      (x.standing = false → t.tkc = s.tkc) ∧
      (x.standing = true → TrunksFollow (s.setStation i { x with run := none, standing := false }) t) ∧
      t.trc.idCounter = s.trc.idCounter ∧
      t.afm = s.afm ∧ t.fiu = s.fiu ∧ t.lnk = s.lnk ∧ t.cfs = s.cfs ∧ t.pending = s.pending ∧ t.time = s.time) ∧
    (∀ d, x.scan = .fault d → exec (.loopRecovery i) s = .next
      { s.setStation i { x with scan := selectedScan s i, loop := none } with rpq := recorded [.fault (.station i d) false] s }) ∧
    ((∀ d, x.scan ≠ .fault d) → exec (.loopRecovery i) s = .next (s.setStation i { x with loop := none }))

/-! ### Tracks -/

/-- A track whose window has passed ends: EXTINGUISHED when its spray has opened and VANISHED otherwise, with its
record, its count and, where it is the track the sampler follows, its outcome handed to the sampler; nothing else
changes, and neither does anything while the window holds or for an id no track bears. A notice of a valve (R59 to
R62) marks the track that follows the valve, and a track without a next station is judged at it: MISSED ends it
VANISHED, CLOSED after an opening UNCONFIRMED. The judgement after a sighting follows R64 and, at the inlet, R65; a
new track with neither a spray nor a next station ends at once.
The model's choices: the notices of one schedule reach its ids in list order (log entry 30), and a command whose
condition does not hold changes nothing (log entry 4). -/
def Obligations.WindowPassEndsTheTrack : Prop :=
  (∀ (s : State) (id : Byte),
    let found (k : Track) : Prop := s.trc.tracks.find? (fun q => decide (q.id = id)) = some k
    (∀ k w, found k → k.next = some w → later s.time w.late = true →
      exec (.windowPass id) s = .next (endedTrack k (if k.outcome = .opened then .extinguished else .vanished) s)) ∧
    ((∀ k w, found k → k.next = some w → later s.time w.late = false) → exec (.windowPass id) s = .next s)) ∧
  (∀ (s : State) (v : Fin 12) (id : Byte),
    let found (k : Track) : Prop := s.trc.tracks.find? (fun q => decide (q.id = id)) = some k
    let marked (f : Track → Track) : State :=
      { s with trc := { s.trc with tracks := s.trc.tracks.map (fun q => if q.id = id then f q else q) } }
    let opened := marked (fun q => { q with outcome := .opened })
    let missed := marked (fun q => { q with outcome := .missed })
    let closed := marked (fun q => { q with sprayClosed := true })
    ((∀ k, found k → k.valve ≠ some v) →
      noticeOpened v id s = s ∧ noticeMissed v id s = s ∧ noticeClosed v id s = s) ∧
    ∀ k, found k → k.valve = some v →
      noticeOpened v id s = opened ∧
      noticeMissed v id s = (if k.next = none then endedTrack { k with outcome := .missed } .vanished missed else missed) ∧
      (k.outcome ≠ .opened → noticeClosed v id s = s) ∧
      (k.outcome = .opened → noticeClosed v id s =
        if k.next = none then endedTrack { k with sprayClosed := true } .unconfirmed closed else closed)) ∧
  (∀ (s : State) (i : Fin 16) (id : Byte) (asked : Bool),
    let found (k : Track) : Prop := s.trc.tracks.find? (fun q => decide (q.id = id)) = some k
    let u := judgeSighting i id asked s
    ((∀ k, found k → k.next ≠ none) → u = s) ∧
    ∀ k, found k → k.next = none →
      (isInlet s i = true → asked = false → u = endedTrack k .unconfirmed s) ∧
      (isInlet s i = false ∨ asked = true →
        (k.Waits → u = s) ∧
        (k.outcome = .none ∨ k.outcome = .missed → u = endedTrack k .vanished s) ∧
        (k.outcome = .opened → k.sprayClosed = true → u = endedTrack k .unconfirmed s))) ∧
  (∀ (s : State) (v : Fin 12),
    (∀ sch since, (s.valve v).st = .waiting sch since → later s.time sch.closeTime = true →
      ∃ t, exec (.sprayMissed v) s = .next t ∧ t.trc = (sch.requests.foldl (fun x id => noticeMissed v id x) s).trc) ∧
    ∀ sch g l c, (s.valve v).st = .spraying sch g l c → reached s.time sch.closeTime = true →
      (∀ w x y, (s.valve w).st ≠ .waiting x y) →
      ∃ t, exec (.valveClose v) s = .next t ∧ t.trc = (sch.requests.foldl (fun x id => noticeClosed v id x) s).trc) ∧
  ∀ (s : State) (i : Fin 16) (value : BitVec 12), (s.station i).scan = .cont → (s.station i).run = none →
    (s.stationEntry i).threshold ≤ value.toNat → TracksOk s → s.trc.tracks.length < 32 →
    (∀ q ∈ s.trc.tracks, ∀ w, q.next = some w → w.station ≠ i) →
    requestedValve s i = none → nextStation s i = none →
    let k := (s.stationEntry i).pos.trunk
    let b := s.rpq.bank.trunk[k]
    ∃ t, exec (.detectorSample i value) s = .next t ∧ t.trc.tracks = s.trc.tracks ∧
      (t.rpq.bank.trunk[k]).newTracks = b.newTracks + 1 ∧
      (t.rpq.bank.trunk[k]).unconfirmed = (if isInlet s i then b.unconfirmed + 1 else b.unconfirmed) ∧
      (t.rpq.bank.trunk[k]).vanished = (if isInlet s i then b.vanished else b.vanished + 1)

/-! ### Sprays and the supply -/

/-- A scheduled valve whose open time is reached opens when a grant is possible and waits when it is not; a waiting
one whose close time has passed is missed and counted, and every target re-evaluated; an open one whose close time
is reached closes and gives its units back, and the waiting valves are scanned (R79, R80): the first in the order of
the policy that a grant is possible for, its close time still ahead, opens, and one that no grant is possible for
waits on. A grant that makes the units in use rise from 0, at an open time or in the scan, starts the flow prove timer
and stops the unexpected flow timer, a close that makes them fall to 0 stops the one and with flow starts the other, and
FLOW_PROVEN follows both (R85, R87). A close captures the sample of a tagged request in its schedule (R93). What is not
due changes nothing. A command whose condition does not hold changes nothing: the model's
choice, log entry 4. -/
def Obligations.SprayTimes : Prop :=
  ∀ (s : State) (v : Fin 12),
    let e := s.valveEntry v
    let b := s.rpq.bank.valve[v]
    let possible : Prop := s.spa.units + e.demand ≤ s.supplyEntry.capacity ∧
      (e.cls = .filter ∨ s.spa.nonFilter + e.demand ≤ s.supplyEntry.capacity - s.supplyEntry.reserve)
    (∀ sch, (s.valve v).st = .scheduled sch → reached s.time sch.openTime = true →
      (¬ possible → exec (.openTimeReached v) s = .next (s.setValve v { st := .waiting sch s.time, output := false })) ∧
      (possible →
        let late := later s.time sch.openTime
        let counted : ValveCounters := { b with opens := b.opens + 1, late := if late then b.late + 1 else b.late }
        ∃ t, exec (.openTimeReached v) s = .next t ∧
          t.valve v = { st := .spraying sch s.time late e.cls, output := true } ∧
          (∀ w, w ≠ v → t.valve w = if s.spa.flow = true ∧ 0 < s.spa.units + e.demand then (s.valve w).seeFlow else s.valve w) ∧
          t.spa = drawnSupply s e.demand e.cls t.spa.valves ∧ t.trc.idCounter = s.trc.idCounter ∧
          t.trc.tracks = s.trc.tracks.map (fun q => if sch.requests.contains q.id && follows s v q.id then
            { q with outcome := .opened } else q) ∧
          t.rpq = { recorded [.spray v .opened sch.lateStart late sch.merged sch.openTime sch.closeTime] s with
            bank := { s.rpq.bank with valve := s.rpq.bank.valve.set v counted } } ∧
          t = { s with trc := t.trc, spa := t.spa, rpq := t.rpq })) ∧
    ((∀ sch, (s.valve v).st = .scheduled sch → reached s.time sch.openTime = false) → exec (.openTimeReached v) s = .next s) ∧
    (∀ sch since, (s.valve v).st = .waiting sch since → later s.time sch.closeTime = true →
      let k := s.trunk e.pos.trunk
      let n := k.missedRing[k.slot]
      let more : Trunk := { k with missedRing := k.missedRing.set k.slot (if n < 255 then n + 1 else n) }
      ∃ t, exec (.sprayMissed v) s = .next t ∧ t.spa = { (s.setValve v { st := .idle, output := false }).spa with sampler := t.spa.sampler } ∧
        t.rpq.bank.valve = s.rpq.bank.valve.set v { b with missed := b.missed + 1 } ∧ t.trc.idCounter = s.trc.idCounter ∧
        (∀ r o, s.spa.sampler = .tagged r o → r.valve = v → ∃ x, t.spa.sampler = .valid x ∧ x.missed = true ∧ x.captured = s.time) ∧
        TrunksFollow (s.setTrunk e.pos.trunk more) t ∧
        SameBelow { s.setTrunk e.pos.trunk more with
          trc := t.trc, spa := t.spa
          rpq := { s.rpq with bank := { s.rpq.bank with valve := t.rpq.bank.valve, trunk := t.rpq.bank.trunk } } } t) ∧
    ((∀ sch since, (s.valve v).st = .waiting sch since → later s.time sch.closeTime = false) → exec (.sprayMissed v) s = .next s) ∧
    (∀ sch g l c, (s.valve v).st = .spraying sch g l c → reached s.time sch.closeTime = true →
      ∃ t, exec (.valveClose v) s = .next t ∧ t.valve v = { st := .idle, output := false } ∧
        t = { s with trc := t.trc, spa := t.spa, rpq := t.rpq } ∧ t.rpq.bank.valve[v] = s.rpq.bank.valve[v] ∧
        t.rpq.bank.station = s.rpq.bank.station ∧ t.trc.idCounter = s.trc.idCounter ∧
        (∀ w, w ≠ v → (∀ x y, (s.valve w).st ≠ .waiting x y) →
          t.valve w = if s.spa.flow = true ∧ 0 < t.spa.units then (s.valve w).seeFlow else s.valve w) ∧
        ReleasedSupply s t e.demand ∧
        (∀ r o, s.spa.sampler = .tagged r o →
          (r.valve = v → ∃ x, t.spa.sampler = .valid x ∧ x.request = r ∧ x.grantTime = g ∧ x.closeTime = sch.closeTime ∧
            x.late = l ∧ x.missed = false ∧ x.captured = s.time) ∧
          (r.valve ≠ v → ∃ p, t.spa.sampler = .tagged r p)) ∧
        ((∀ r o, s.spa.sampler ≠ .tagged r o) → t.spa.sampler = s.spa.sampler) ∧
        (let units := s.spa.units - e.demand
         let nonFilter := if c = .filter then s.spa.nonFilter else s.spa.nonFilter - e.demand
         let can (w : Fin 12) (y : Schedule) : Prop := Fits s units nonFilter w ∧ later y.closeTime s.time = true
         ((∀ w y since, (s.valve w).st = .waiting y since → ¬ can w y) → t.spa.units = units ∧ t.spa.nonFilter = nonFilter) ∧
         (∀ w y since, (s.valve w).st = .waiting y since → ¬ can w y → t.valve w = s.valve w) ∧
         ∀ w y since, (s.valve w).st = .waiting y since → can w y →
           (∃ base : Time, ∀ x y b, (s.valve x).st = .waiting y b → (y.openTime - base).toNat < 2 ^ 31) →
           (∀ x z b, x ≠ w → (s.valve x).st = .waiting z b → can x z → StandsBefore s w x) →
           t.valve w = { st := .spraying y s.time (later s.time y.openTime) (s.valveEntry w).cls, output := true } ∧
             units + (s.valveEntry w).demand ≤ t.spa.units)) ∧
    ((∀ sch g l c, (s.valve v).st = .spraying sch g l c → reached s.time sch.closeTime = false) → exec (.valveClose v) s = .next s)

/-- A flow prove timer that runs out without flow sets SUPPLY_FAULT, an unexpected flow timer that runs out raises
FLOW_UNEXPECTED, each with its urgent record and at ALERT in the filter zone of every enabled trunk; with flow, with
the fault set or the cause raised already, only the timer stops; a timer that is not due changes nothing. Flow that
begins proves the flow where units are in use and starts the unexpected flow timer where none are, and ends
SUPPLY_FAULT; flow that stops unproves it, stops that timer and ends FLOW_UNEXPECTED (R85 to R87). The model's
choices: where the record of a fault stands among those its causes lead to (log entry 32), the INPUT record before
them (log entry 30), and a command whose condition does not hold changes nothing (log entry 4). -/
def Obligations.FlowTimers : Prop :=
  ∀ s : State,
    let filterZone (z : Fin 16) : Prop := ∃ k, (s.trunkEntry k).enabled = true ∧ (s.trunkEntry k).filterZone = z
    (∀ e, s.spa.proveExpiry = some e → reached s.time e = true →
      (s.spa.flow = true ∨ s.spa.supplyFault = true →
        exec .flowProveExpiry s = .next { s with spa := { s.spa with proveExpiry := none } }) ∧
      (s.spa.flow = false → s.spa.supplyFault = false → ∃ t, exec .flowProveExpiry s = .next t ∧
        SameBelow { s with spa := { s.spa with proveExpiry := none, supplyFault := true } } t ∧
        AppendsTo { s with rpq := recorded [.fault .noFlow true] s } t ∧
        ∀ z, filterZone z → (t.zone z).causes.supply = .alert)) ∧
    ((∀ e, s.spa.proveExpiry = some e → reached s.time e = false) → exec .flowProveExpiry s = .next s) ∧
    (∀ e, s.spa.unexpExpiry = some e → reached s.time e = true →
      (s.spa.unexpRaised = true → exec .unexpectedFlowExpiry s = .next { s with spa := { s.spa with unexpExpiry := none } }) ∧
      (s.spa.unexpRaised = false → ∃ t, exec .unexpectedFlowExpiry s = .next t ∧
        SameBelow { s with spa := { s.spa with unexpExpiry := none, unexpRaised := true } } t ∧
        (∃ m, AppendsTo s m ∧ m.time = s.time ∧ m.cfs = s.cfs ∧ t.rpq = recorded [.fault .flowUnexpected true] m) ∧
        ∀ z, filterZone z → (t.zone z).causes.flowUnexpected = .alert)) ∧
    ((∀ e, s.spa.unexpExpiry = some e → reached s.time e = false) → exec .unexpectedFlowExpiry s = .next s) ∧
    ∀ i : Fin 32,
      let taken : State := { s.setInput i (debouncedInput s i) with rpq := recorded [.input i (debouncedInput s i).active] s }
      let proven : Bool := decide (0 < s.spa.units)
      let flows : Spa :=
        { s.spa with
          flow := true, flowProven := proven
          valves := if proven then Vector.ofFn (fun v => (s.valve v).seeFlow) else s.spa.valves
          unexpExpiry := if s.spa.units = 0 then some (s.time + BitVec.ofNat 32 (s.supplyEntry.unexpTime * 1000)) else s.spa.unexpExpiry }
      let stops : Spa := { s.spa with flow := false, flowProven := false, unexpExpiry := none }
      (HandsOver s i .flow true → s.spa.flow = false →
        (s.spa.supplyFault = false → exec (.debounceExpiry i) s = .next { taken with spa := flows }) ∧
        (s.spa.supplyFault = true → ∃ t, exec (.debounceExpiry i) s = .next t ∧
          SameBelow { taken with spa := { flows with supplyFault := false } } t ∧
          AppendsTo { s with rpq := recorded [.input i true, .fault .noFlow false] s } t ∧
          ∀ z, filterZone z → (t.zone z).causes.supply = .normal)) ∧
      (HandsOver s i .flow false → s.spa.flow = true →
        (s.spa.unexpRaised = false → exec (.debounceExpiry i) s = .next { taken with spa := stops }) ∧
        (s.spa.unexpRaised = true → ∃ t, exec (.debounceExpiry i) s = .next t ∧
          SameBelow { taken with spa := { stops with unexpRaised := false } } t ∧
          (∃ m, AppendsTo taken m ∧ m.time = s.time ∧ m.cfs = s.cfs ∧ t.rpq = recorded [.fault .flowUnexpected false] m) ∧
          ∀ z, filterZone z → (t.zone z).causes.flowUnexpected = .normal))

/-! ### Field inputs -/

/-- A raw state that differs from the debounced one begins a debounce, one that agrees ends it, and before the load
none runs; a debounce that has run its time forms the debounced, latch and active states, and a changed active
state reaches the receiver of the input's role: a call point or heat detector that operates puts its zone at
FIRE, and the lowest input of a single role is handed to the supply, a trunk, a door or the keyswitch. A FAN input
that becomes active has the run condition of a STARTING trunk tested (R111) and every target re-evaluated.
A command whose condition does not hold changes nothing: the model's choice, log entry 4. -/
def Obligations.DebouncedInputs : Prop :=
  ∀ (s : State) (i : Fin 32),
    let x := s.input i
    let e := s.inputEntry i
    (∀ high, s.cfs.mode = .start → exec (.rawInputChange i high) s = .next (s.setInput i { x with raw := high })) ∧
    (∀ high, s.cfs.mode ≠ .start →
      (high = x.debounced → exec (.rawInputChange i high) s = .next (s.setInput i { x with raw := high, differs := none })) ∧
      (high ≠ x.debounced → x.differs ≠ none → exec (.rawInputChange i high) s = .next (s.setInput i { x with raw := high })) ∧
      (high ≠ x.debounced → x.differs = none → 0 < e.debounce →
        exec (.rawInputChange i high) s = .next (s.setInput i { x with raw := high, differs := some s.time })) ∧
      (high ≠ x.debounced → x.differs = none → e.debounce = 0 → exec (.rawInputChange i high) s =
        exec (.debounceExpiry i) (s.setInput i { x with raw := high, differs := some s.time }))) ∧
    ((∀ t, x.differs = some t → reached s.time (t + BitVec.ofNat 32 e.debounce) = false) → exec (.debounceExpiry i) s = .next s) ∧
    ∀ t, x.differs = some t → reached s.time (t + BitVec.ofNat 32 e.debounce) = true →
      let latch := x.latch || (e.sense.isEdge && x.raw == e.sense.operated)
      let active := if e.sense.isEdge then latch else x.raw == e.sense.operated
      let y : Input := { raw := x.raw, debounced := x.raw, differs := none, latch := latch, active := active }
      ∃ u, exec (.debounceExpiry i) s = .next u ∧ u.fiu = s.fiu.set i y ∧ u.afm = s.afm ∧ u.lnk = s.lnk ∧
        u.cfs.tables = s.cfs.tables ∧ u.cfs.copy = s.cfs.copy ∧ u.dfe.viewPos = s.dfe.viewPos ∧ u.pending = s.pending ∧ u.time = s.time ∧
        (e.role = .none ∨ active = x.active → u = s.setInput i y) ∧
        (active ≠ x.active →
          (∀ z, e.role = .call z ∨ e.role = .heat z → SameBelow (s.setInput i y) u ∧
            (active = true → (e.role = .call z → (u.zone z).causes.call = .fire) ∧ (e.role = .heat z → (u.zone z).causes.heat = .fire) ∧
              ((s.zoneEntry z).enabled = true → (u.zone z).current = .fire ∧ (u.zone z).latched = .fire))) ∧
          ((∀ j, j < i → (s.inputEntry j).role ≠ e.role) →
            (e.role = .flow → u.spa.flow = active) ∧
            (∀ k, e.role = .fan k → (u.trunk k).fanIn = active ∧
              (active = true → (s.trunk k).fanIn = false →
                TrunksFollow (runTested k (s.setTrunk k { s.trunk k with fanIn := true })) u)) ∧
            (∀ k, e.role = .gate k → (u.trunk k).gateIn = active) ∧ (∀ d, e.role = .door d → (u.door d).contact = active) ∧
            (e.role = .key → u.cfs.key = active)))

/-! ### Sirens -/

/-- A free start slot starts the waiting siren of the highest level, the lowest index among equals: it sounds its
wanted pattern from step 0, or begins its pending test, and the last start is now, so that under a start gap the others
wait. Under a start gap of 0 every waiting siren starts at once, in that order, each with its record. A step that
ends passes to the next one, to the next pattern or to OFF; a start 2000 ms old is forgotten.
A command whose condition does not hold changes nothing: the model's choice, log entry 4. -/
def Obligations.SirenStartsAndSteps : Prop :=
  ∀ (s : State) (i : Fin 8),
    let waits (j : Fin 8) : Prop := (s.siren j).st.phase = .startWait
    let free : Prop := ∀ l, s.srs.lastStart = some l → reached s.time (l + BitVec.ofNat 32 s.globalEntry.startGap) = true
    let outputs (t : State) : Prop := t = { s with srs := t.srs, rpq := t.rpq } ∧
      ∀ j, j ≠ i → { t.siren j with output := (s.siren j).output } = s.siren j
    let kept (t : State) : Prop := t.srs.lastStart = s.srs.lastStart ∧
      t.siren i = { s.siren i with st := (t.siren i).st, output := (t.siren i).output }
    (¬ free ∨ (∀ j, ¬ waits j) → exec .startSlotFree s = .next s) ∧
    (free → waits i → (∀ j, j ≠ i → waits j → QueuedBefore s i j) → 0 < s.globalEntry.startGap → s.globalEntry.startGap ≤ 2000 →
      ∃ t, exec .startSlotFree s = .next t ∧ outputs t ∧ Starts s i (t.siren i) ∧ t.srs.lastStart = some s.time ∧
        t.rpq = recorded [.sirenState i (t.siren i).st.phase (t.siren i).st.pattern] s) ∧
    (free → waits i → s.globalEntry.startGap = 0 →
      ∃ t, exec .startSlotFree s = .next t ∧ t = { s with srs := t.srs, rpq := t.rpq } ∧ t.srs.lastStart = some s.time ∧
        (∀ j, waits j → Starts s j (t.siren j)) ∧
        (∀ j, ¬ waits j → t.siren j = { s.siren j with output := (t.siren j).output }) ∧
        ∃ order : List (Fin 8), order.Nodup ∧ (∀ j, j ∈ order ↔ waits j) ∧ order.Pairwise (QueuedBefore s) ∧
          t.rpq = recorded (order.map (fun j => .sirenState j (t.siren j).st.phase (t.siren j).st.pattern)) s) ∧
    (∀ l, s.srs.lastStart = some l → reached s.time (l + 2000) = true →
      exec .lastStartExpiry s = exec .startSlotFree { s with srs := { s.srs with lastStart := none } }) ∧
    (∀ l, s.srs.lastStart = some l → reached s.time (l + 2000) = true → (∀ j, ¬ waits j) →
      exec .lastStartExpiry s = .next { s with srs := { s.srs with lastStart := none } }) ∧
    ((∀ l, s.srs.lastStart = some l → reached s.time (l + 2000) = false) → exec .lastStartExpiry s = .next s) ∧
    (∀ p n w x next stop, (s.siren i).st = .sounding p n w x next stop → reached s.time x = true →
      let q := next.getD p
      let off : Prop := stop = true ∨ (s.patternEntry q).count = 0
      ∃ t, exec (.stepEnd i) s = .next t ∧ outputs t ∧ kept t ∧
        (off → (t.siren i).st = .off ∧ (t.siren i).output = false ∧ t.rpq = recorded [.sirenState i .off none] s) ∧
        (¬ off → next = none → (t.siren i).st = soundingStep s p (if n + 1 < (s.patternEntry p).count then n + 1 else 0) ∧ t.rpq = s.rpq) ∧
        (¬ off → next ≠ none → (t.siren i).st = soundingStep s q 0 ∧ t.rpq = recorded [.sirenState i .sounding (some q)] s)) ∧
    (∀ p n w x ends seen, (s.siren i).st = .test p n w (some x) ends seen → reached s.time x = true →
      let m := if n + 1 < (s.patternEntry p).count then n + 1 else 0
      ∃ t, exec (.stepEnd i) s = .next t ∧ outputs t ∧ kept t ∧ t.rpq = s.rpq ∧ (t.siren i).st = testStep s p m ends seen) ∧
    ((∀ p n w x next stop, (s.siren i).st = .sounding p n w x next stop → reached s.time x = false) →
      (∀ p n w x ends seen, (s.siren i).st = .test p n w (some x) ends seen → reached s.time x = false) →
      exec (.stepEnd i) s = .next s)

/-- A load fault of a supervised siren stands with its urgent record and marks a running test; while one stands
another code takes its place without a record; a recovery ends it with its clear record. LOAD_SHORT turns the
output off. Unsupervised, and with nothing standing, only the load's own condition changes. -/
def Obligations.SirenLoadSupervision : Prop :=
  ∀ (s : State) (i : Fin 8) (c : LoadFault),
    let supervised : Prop := (s.sirenEntry i).enabled = true ∧ s.cfs.mode ≠ .start
    let others (t : State) : Prop := t = { s with srs := t.srs, rpq := t.rpq } ∧ t.srs.lastStart = s.srs.lastStart ∧
      ∀ j, j ≠ i → { t.siren j with output := (s.siren j).output } = s.siren j
    (¬ supervised → exec (.loadFault i c) s = .next (s.setSiren i { s.siren i with load := some c })) ∧
    (supervised → ∃ t, exec (.loadFault i c) s = .next t ∧ others t ∧ (t.siren i).fault = some c ∧ (t.siren i).load = some c ∧
      (c = .shortLoad → (t.siren i).output = false) ∧ (t.siren i).wanted = (s.siren i).wanted ∧
      t.rpq = (if (s.siren i).fault = none then recorded [.fault (.siren i c) true] s else s.rpq) ∧
      (t.siren i).st =
        (match (s.siren i).st, (s.siren i).fault with
          | .test p n w x ends _, none => .test p n w x ends true
          | st, _ => st)) ∧
    ((s.siren i).fault = none → exec (.loadRecovery i) s = .next (s.setSiren i { s.siren i with load := none })) ∧
    (∀ d, (s.siren i).fault = some d → ∃ t, exec (.loadRecovery i) s = .next t ∧ others t ∧ (t.siren i).fault = none ∧
      (t.siren i).load = none ∧ (t.siren i).st = (s.siren i).st ∧ (t.siren i).wanted = (s.siren i).wanted ∧
      t.rpq = recorded [.fault (.siren i d) false] s)

/-! ### Positions and windows -/

/-- The relation of R8: three conditions, strict and transitive. -/
def Obligations.DownstreamRelation : Prop :=
  ∀ (s : State) (p q r : Position),
    (downstream s p q = true ↔ p.trunk = q.trunk ∧ p.dist < q.dist ∧
      (p.branch = q.branch ∨ (p.branch = none ∧ ∃ b, q.branch = some b ∧ p.dist ≤ (s.branchEntry b).junction))) ∧
    downstream s p p = false ∧ (downstream s p q = true → downstream s q r = true → downstream s p r = true)

/-- The transit and the offsets of R44 and R45, floor and ceiling of the tolerance around the transit; the window and
the schedule made from them, on a stalled trunk and on one that is not; and the next station: the nearest healthy one
downstream, the lowest index among equals. A request is fitted into its valve by the valve's state (R75, R91): a
schedule of its own in IDLE, merged in SCHEDULED, WAITING and OPEN, an abort of the test in TEST; a schedule whose
open time has come is taken as at its open time. -/
def Obligations.TransitsWindowsSchedulesAndNextStations : Prop :=
  (∀ d v : Nat, 0 < v → transit d v ≤ 60000 ∧ (d * 10000 / v ≤ 60000 → transit d v = d * 10000 / v) ∧ transit 0 v = 0 ∧
    (60000 < d * 10000 / v → transit d v = 60000)) ∧
  (∀ tr tol : Nat, tol ≤ 50 →
    earlyOffset tr tol * 100 ≤ tr * (100 - tol) ∧ tr * (100 - tol) < (earlyOffset tr tol + 1) * 100 ∧
    tr * (100 + tol) ≤ lateOffset tr tol * 100 ∧ lateOffset tr tol * 100 < tr * (100 + tol) + 100 ∧
    earlyOffset tr tol ≤ tr ∧ tr ≤ lateOffset tr tol ∧ (tol = 0 → earlyOffset tr tol = tr ∧ lateOffset tr tol = tr) ∧
    (tr = 0 → earlyOffset tr tol = 0 ∧ lateOffset tr tol = 0) ∧
    (tr ≤ 60000 → earlyOffset tr tol ≤ 60000 ∧ lateOffset tr tol ≤ 90000)) ∧
  (∀ (s : State) (i j : Fin 16) (v : Fin 12) (t : Time) (id : Byte),
    let e := s.trunkEntry (s.stationEntry i).pos.trunk
    let air := s.air (s.stationEntry i).pos.trunk
    let w := arrivalWindow s i t j
    let r := spraySchedule s i v t id
    let x := s.valveEntry v
    let t1 := transit ((s.stationEntry i).pos.dist - (s.stationEntry j).pos.dist) air.vf
    let t2 := transit ((s.stationEntry i).pos.dist - x.pos.dist) air.vf
    w.station = j ∧ r.track = id ∧ r.detected = t ∧
    (air.stalled = true → w.early = t ∧ w.late = t + BitVec.ofNat 32 e.stallHold ∧
      r.openTime = t ∧ r.closeTime = t + BitVec.ofNat 32 e.stallHold ∧ r.lateStart = false ∧ r.transit = 0 ∧ r.early = 0) ∧
    (air.stalled = false → w.early = t + BitVec.ofNat 32 (earlyOffset t1 e.tolerance) ∧
      w.late = t + BitVec.ofNat 32 (lateOffset t1 e.tolerance) ∧ r.transit = t2 ∧ r.early = earlyOffset t2 e.tolerance ∧
      (r.lateStart = true ↔ t2 < x.lead) ∧
      (e.tolerance ≤ 50 → x.minHold ≤ 10000 → x.tail ≤ 2000 →
        (r.openTime - t).toNat = earlyOffset t2 e.tolerance - x.lead ∧
        (r.closeTime - t).toNat = max ((r.openTime - t).toNat + x.minHold) (lateOffset t2 e.tolerance + x.tail)))) ∧
  (∀ (s : State) (v : Fin 12) (r : SprayRequest),
    let u := requestSpray v r s
    let own : Schedule :=
      { openTime := r.openTime, closeTime := r.closeTime, lateStart := r.lateStart, merged := 1, requests := [r.track] }
    let joined (l : List Byte) : List Byte :=
      if r.track ∈ l then l
      else if l.length < 32 then l ++ [r.track]
      else (match l.find? (fun id => !s.trc.tracks.any (fun k => decide (k.id = id))) with
        | none => l
        | some id => l.erase id) ++ [r.track]
    let merged (y : Schedule) : Schedule :=
      { y with
        closeTime := laterOf y.closeTime r.closeTime, lateStart := y.lateStart || r.lateStart
        merged := if y.merged < 255 then y.merged + 1 else y.merged, requests := joined y.requests }
    let scheduled (y : Schedule) : Prop :=
      (later y.openTime s.time = true → u = s.setValve v { st := .scheduled y, output := false }) ∧
      (later y.openTime s.time = false →
        exec (.openTimeReached v) (s.setValve v { st := .scheduled y, output := false }) = .next u)
    ((s.valve v).st = .idle → scheduled own) ∧
    (∀ y, (s.valve v).st = .scheduled y → scheduled { merged y with openTime := earlierOf y.openTime r.openTime }) ∧
    (∀ y since, (s.valve v).st = .waiting y since → u = s.setValve v { st := .waiting (merged y) since, output := false }) ∧
    (∀ y g l c, (s.valve v).st = .spraying y g l c →
      u = noticeOpened v r.track (s.setValve v { st := .spraying (merged y) g l c, output := true })) ∧
    (∀ ends seen, (s.valve v).st = .test ends seen →
      let e := s.valveEntry v
      let b := s.rpq.bank.valve[v]
      u = { s with
        trc := (noticeOpened v r.track s).trc
        spa := { s.spa with
          valves := s.spa.valves.set v { st := .spraying own s.time false e.cls, output := true }
          nonFilter := if e.cls = .filter then s.spa.nonFilter - e.demand else s.spa.nonFilter }
        rpq := { recorded [.testResult (.spray v) .aborted, .spray v .opened r.lateStart false 1 r.openTime r.closeTime] s with
          bank := { s.rpq.bank with valve := s.rpq.bank.valve.set v { b with opens := b.opens + 1 } } } })) ∧
  ∀ (s : State) (q : Fin 16),
    let ahead (i : Fin 16) : Prop :=
      (s.stationEntry i).enabled = true ∧ (∀ c, (s.station i).scan ≠ .fault c) ∧ downstream s (s.stationEntry i).pos (s.stationEntry q).pos = true
    (nextStation s q = none ↔ ∀ i, ¬ ahead i) ∧
    ∀ j, nextStation s q = some j ↔ ahead j ∧ ∀ i, ahead i →
      (s.stationEntry i).pos.dist < (s.stationEntry j).pos.dist ∨ ((s.stationEntry i).pos.dist = (s.stationEntry j).pos.dist ∧ j ≤ i)

/-! ### Invariants -/

/-- The report queue never holds more than 64 records, its dropped count never exceeds 255, and ATTN stands as
R185 says after every step. -/
def Obligations.EveryStepKeepsTheReportQueue : Prop := ∀ s t, QueueOk s → step s = .next t → QueueOk t

/-- After every step each zone's current level is the highest of its causes, its latched level is never below it,
and its cause set is the one its sources hold. -/
def Obligations.EveryStepKeepsLevelsAndCauses : Prop :=
  (∀ s t, LevelsOk s → step s = .next t → LevelsOk t) ∧ ∀ s t, CausesOk s → step s = .next t → CausesOk t

/-- After every step the track table holds at most 32 tracks with distinct ids, each awaited downstream of its
last station. -/
def Obligations.EveryStepKeepsTheTrackTable : Prop := ∀ s t, TracksOk s → step s = .next t → TracksOk t

/-- After every step the units drawn are those of the open and testing valves, within the capacity and, for
valves that are not of class FILTER, within what the reserve leaves. -/
def Obligations.EveryStepKeepsTheSupply : Prop := ∀ s t, SupplyOk s → step s = .next t → SupplyOk t

/-- After every step fans, gates and machine stops stand as the trunk states have them, and a siren's output is
driven only in an on step without LOAD_SHORT, partners never both. Where no trip entry reads a zone level, every enabled
trunk has answered its target after every step (R103, R104, R106): no event moves a target that is not re-evaluated. -/
def Obligations.EveryStepKeepsTheOutputs : Prop :=
  (∀ s t, OutputsOk s → step s = .next t → OutputsOk t) ∧ (∀ s t, SirensOk s → step s = .next t → SirensOk t) ∧
    ∀ s t, CausesOk s → (∀ k, TargetAnswered s k) → step s = .next t → (∀ k, LevelFreeTrips t k) → ∀ k, TargetAnswered t k

/-- After every step the blocks hold their reset values while the part is in START, an unstalled trunk has the
velocity for it, every door holder is on exactly in the holding states, every receiver of a single role holds the
active state of its input, as its sense gives it, and every entry of the working tables and of the copy is in range. -/
def Obligations.EveryStepKeepsStartAirAndHolders : Prop :=
  (∀ s t, StartHolds s → step s = .next t → StartHolds t) ∧ (∀ s t, AirOk s → step s = .next t → AirOk t) ∧
    (∀ s t, HoldersOk s → step s = .next t → HoldersOk t) ∧ (∀ s t, HandedOk s → step s = .next t → HandedOk t) ∧
    ∀ s t, EntriesOk s → step s = .next t → EntriesOk t
end

