-- ==== Sys2Proof/Laws/State.lean ====
section
/-! SUPPORT. What each named update of the state leaves alone, one lemma per field, and what reading
an entry gives after it. -/

namespace Sys2Proof.Machine

@[simp] theorem State.setAir_pending (s : State) (t : Fin 4) (x : TrunkAir) : (s.setAir t x).pending = s.pending := rfl
@[simp] theorem State.setAir_time (s : State) (t : Fin 4) (x : TrunkAir) : (s.setAir t x).time = s.time := rfl
@[simp] theorem State.setAir_draws (s : State) (t : Fin 4) (x : TrunkAir) : (s.setAir t x).draws = s.draws := rfl
@[simp] theorem State.setAir_dfe (s : State) (t : Fin 4) (x : TrunkAir) : (s.setAir t x).dfe = s.dfe := rfl
@[simp] theorem State.setAir_trc (s : State) (t : Fin 4) (x : TrunkAir) : (s.setAir t x).trc = s.trc := rfl
@[simp] theorem State.setAir_spa (s : State) (t : Fin 4) (x : TrunkAir) : (s.setAir t x).spa = s.spa := rfl
@[simp] theorem State.setAir_tkc (s : State) (t : Fin 4) (x : TrunkAir) : (s.setAir t x).tkc = s.tkc := rfl
@[simp] theorem State.setAir_znt (s : State) (t : Fin 4) (x : TrunkAir) : (s.setAir t x).znt = s.znt := rfl
@[simp] theorem State.setAir_fiu (s : State) (t : Fin 4) (x : TrunkAir) : (s.setAir t x).fiu = s.fiu := rfl
@[simp] theorem State.setAir_drc (s : State) (t : Fin 4) (x : TrunkAir) : (s.setAir t x).drc = s.drc := rfl
@[simp] theorem State.setAir_srs (s : State) (t : Fin 4) (x : TrunkAir) : (s.setAir t x).srs = s.srs := rfl
@[simp] theorem State.setAir_rpq (s : State) (t : Fin 4) (x : TrunkAir) : (s.setAir t x).rpq = s.rpq := rfl
@[simp] theorem State.setAir_lnk (s : State) (t : Fin 4) (x : TrunkAir) : (s.setAir t x).lnk = s.lnk := rfl
@[simp] theorem State.setAir_cfs (s : State) (t : Fin 4) (x : TrunkAir) : (s.setAir t x).cfs = s.cfs := rfl

@[simp] theorem State.setStation_pending (s : State) (i : Fin 16) (x : Station) : (s.setStation i x).pending = s.pending := rfl
@[simp] theorem State.setStation_time (s : State) (i : Fin 16) (x : Station) : (s.setStation i x).time = s.time := rfl
@[simp] theorem State.setStation_draws (s : State) (i : Fin 16) (x : Station) : (s.setStation i x).draws = s.draws := rfl
@[simp] theorem State.setStation_afm (s : State) (i : Fin 16) (x : Station) : (s.setStation i x).afm = s.afm := rfl
@[simp] theorem State.setStation_trc (s : State) (i : Fin 16) (x : Station) : (s.setStation i x).trc = s.trc := rfl
@[simp] theorem State.setStation_spa (s : State) (i : Fin 16) (x : Station) : (s.setStation i x).spa = s.spa := rfl
@[simp] theorem State.setStation_tkc (s : State) (i : Fin 16) (x : Station) : (s.setStation i x).tkc = s.tkc := rfl
@[simp] theorem State.setStation_znt (s : State) (i : Fin 16) (x : Station) : (s.setStation i x).znt = s.znt := rfl
@[simp] theorem State.setStation_fiu (s : State) (i : Fin 16) (x : Station) : (s.setStation i x).fiu = s.fiu := rfl
@[simp] theorem State.setStation_drc (s : State) (i : Fin 16) (x : Station) : (s.setStation i x).drc = s.drc := rfl
@[simp] theorem State.setStation_srs (s : State) (i : Fin 16) (x : Station) : (s.setStation i x).srs = s.srs := rfl
@[simp] theorem State.setStation_rpq (s : State) (i : Fin 16) (x : Station) : (s.setStation i x).rpq = s.rpq := rfl
@[simp] theorem State.setStation_lnk (s : State) (i : Fin 16) (x : Station) : (s.setStation i x).lnk = s.lnk := rfl
@[simp] theorem State.setStation_cfs (s : State) (i : Fin 16) (x : Station) : (s.setStation i x).cfs = s.cfs := rfl

@[simp] theorem State.setTracks_pending (s : State) (l : List Track) : (s.setTracks l).pending = s.pending := rfl
@[simp] theorem State.setTracks_time (s : State) (l : List Track) : (s.setTracks l).time = s.time := rfl
@[simp] theorem State.setTracks_draws (s : State) (l : List Track) : (s.setTracks l).draws = s.draws := rfl
@[simp] theorem State.setTracks_afm (s : State) (l : List Track) : (s.setTracks l).afm = s.afm := rfl
@[simp] theorem State.setTracks_dfe (s : State) (l : List Track) : (s.setTracks l).dfe = s.dfe := rfl
@[simp] theorem State.setTracks_spa (s : State) (l : List Track) : (s.setTracks l).spa = s.spa := rfl
@[simp] theorem State.setTracks_tkc (s : State) (l : List Track) : (s.setTracks l).tkc = s.tkc := rfl
@[simp] theorem State.setTracks_znt (s : State) (l : List Track) : (s.setTracks l).znt = s.znt := rfl
@[simp] theorem State.setTracks_fiu (s : State) (l : List Track) : (s.setTracks l).fiu = s.fiu := rfl
@[simp] theorem State.setTracks_drc (s : State) (l : List Track) : (s.setTracks l).drc = s.drc := rfl
@[simp] theorem State.setTracks_srs (s : State) (l : List Track) : (s.setTracks l).srs = s.srs := rfl
@[simp] theorem State.setTracks_rpq (s : State) (l : List Track) : (s.setTracks l).rpq = s.rpq := rfl
@[simp] theorem State.setTracks_lnk (s : State) (l : List Track) : (s.setTracks l).lnk = s.lnk := rfl
@[simp] theorem State.setTracks_cfs (s : State) (l : List Track) : (s.setTracks l).cfs = s.cfs := rfl

@[simp] theorem State.setValve_pending (s : State) (v : Fin 12) (x : Valve) : (s.setValve v x).pending = s.pending := rfl
@[simp] theorem State.setValve_time (s : State) (v : Fin 12) (x : Valve) : (s.setValve v x).time = s.time := rfl
@[simp] theorem State.setValve_draws (s : State) (v : Fin 12) (x : Valve) : (s.setValve v x).draws = s.draws := rfl
@[simp] theorem State.setValve_afm (s : State) (v : Fin 12) (x : Valve) : (s.setValve v x).afm = s.afm := rfl
@[simp] theorem State.setValve_dfe (s : State) (v : Fin 12) (x : Valve) : (s.setValve v x).dfe = s.dfe := rfl
@[simp] theorem State.setValve_trc (s : State) (v : Fin 12) (x : Valve) : (s.setValve v x).trc = s.trc := rfl
@[simp] theorem State.setValve_tkc (s : State) (v : Fin 12) (x : Valve) : (s.setValve v x).tkc = s.tkc := rfl
@[simp] theorem State.setValve_znt (s : State) (v : Fin 12) (x : Valve) : (s.setValve v x).znt = s.znt := rfl
@[simp] theorem State.setValve_fiu (s : State) (v : Fin 12) (x : Valve) : (s.setValve v x).fiu = s.fiu := rfl
@[simp] theorem State.setValve_drc (s : State) (v : Fin 12) (x : Valve) : (s.setValve v x).drc = s.drc := rfl
@[simp] theorem State.setValve_srs (s : State) (v : Fin 12) (x : Valve) : (s.setValve v x).srs = s.srs := rfl
@[simp] theorem State.setValve_rpq (s : State) (v : Fin 12) (x : Valve) : (s.setValve v x).rpq = s.rpq := rfl
@[simp] theorem State.setValve_lnk (s : State) (v : Fin 12) (x : Valve) : (s.setValve v x).lnk = s.lnk := rfl
@[simp] theorem State.setValve_cfs (s : State) (v : Fin 12) (x : Valve) : (s.setValve v x).cfs = s.cfs := rfl

@[simp] theorem State.setTrunk_pending (s : State) (t : Fin 4) (x : Trunk) : (s.setTrunk t x).pending = s.pending := rfl
@[simp] theorem State.setTrunk_time (s : State) (t : Fin 4) (x : Trunk) : (s.setTrunk t x).time = s.time := rfl
@[simp] theorem State.setTrunk_draws (s : State) (t : Fin 4) (x : Trunk) : (s.setTrunk t x).draws = s.draws := rfl
@[simp] theorem State.setTrunk_afm (s : State) (t : Fin 4) (x : Trunk) : (s.setTrunk t x).afm = s.afm := rfl
@[simp] theorem State.setTrunk_dfe (s : State) (t : Fin 4) (x : Trunk) : (s.setTrunk t x).dfe = s.dfe := rfl
@[simp] theorem State.setTrunk_trc (s : State) (t : Fin 4) (x : Trunk) : (s.setTrunk t x).trc = s.trc := rfl
@[simp] theorem State.setTrunk_spa (s : State) (t : Fin 4) (x : Trunk) : (s.setTrunk t x).spa = s.spa := rfl
@[simp] theorem State.setTrunk_znt (s : State) (t : Fin 4) (x : Trunk) : (s.setTrunk t x).znt = s.znt := rfl
@[simp] theorem State.setTrunk_fiu (s : State) (t : Fin 4) (x : Trunk) : (s.setTrunk t x).fiu = s.fiu := rfl
@[simp] theorem State.setTrunk_drc (s : State) (t : Fin 4) (x : Trunk) : (s.setTrunk t x).drc = s.drc := rfl
@[simp] theorem State.setTrunk_srs (s : State) (t : Fin 4) (x : Trunk) : (s.setTrunk t x).srs = s.srs := rfl
@[simp] theorem State.setTrunk_rpq (s : State) (t : Fin 4) (x : Trunk) : (s.setTrunk t x).rpq = s.rpq := rfl
@[simp] theorem State.setTrunk_lnk (s : State) (t : Fin 4) (x : Trunk) : (s.setTrunk t x).lnk = s.lnk := rfl
@[simp] theorem State.setTrunk_cfs (s : State) (t : Fin 4) (x : Trunk) : (s.setTrunk t x).cfs = s.cfs := rfl

@[simp] theorem State.setZone_pending (s : State) (z : Fin 16) (x : Zone) : (s.setZone z x).pending = s.pending := rfl
@[simp] theorem State.setZone_time (s : State) (z : Fin 16) (x : Zone) : (s.setZone z x).time = s.time := rfl
@[simp] theorem State.setZone_draws (s : State) (z : Fin 16) (x : Zone) : (s.setZone z x).draws = s.draws := rfl
@[simp] theorem State.setZone_afm (s : State) (z : Fin 16) (x : Zone) : (s.setZone z x).afm = s.afm := rfl
@[simp] theorem State.setZone_dfe (s : State) (z : Fin 16) (x : Zone) : (s.setZone z x).dfe = s.dfe := rfl
@[simp] theorem State.setZone_trc (s : State) (z : Fin 16) (x : Zone) : (s.setZone z x).trc = s.trc := rfl
@[simp] theorem State.setZone_spa (s : State) (z : Fin 16) (x : Zone) : (s.setZone z x).spa = s.spa := rfl
@[simp] theorem State.setZone_tkc (s : State) (z : Fin 16) (x : Zone) : (s.setZone z x).tkc = s.tkc := rfl
@[simp] theorem State.setZone_fiu (s : State) (z : Fin 16) (x : Zone) : (s.setZone z x).fiu = s.fiu := rfl
@[simp] theorem State.setZone_drc (s : State) (z : Fin 16) (x : Zone) : (s.setZone z x).drc = s.drc := rfl
@[simp] theorem State.setZone_srs (s : State) (z : Fin 16) (x : Zone) : (s.setZone z x).srs = s.srs := rfl
@[simp] theorem State.setZone_rpq (s : State) (z : Fin 16) (x : Zone) : (s.setZone z x).rpq = s.rpq := rfl
@[simp] theorem State.setZone_lnk (s : State) (z : Fin 16) (x : Zone) : (s.setZone z x).lnk = s.lnk := rfl
@[simp] theorem State.setZone_cfs (s : State) (z : Fin 16) (x : Zone) : (s.setZone z x).cfs = s.cfs := rfl

@[simp] theorem State.setInput_pending (s : State) (i : Fin 32) (x : Input) : (s.setInput i x).pending = s.pending := rfl
@[simp] theorem State.setInput_time (s : State) (i : Fin 32) (x : Input) : (s.setInput i x).time = s.time := rfl
@[simp] theorem State.setInput_draws (s : State) (i : Fin 32) (x : Input) : (s.setInput i x).draws = s.draws := rfl
@[simp] theorem State.setInput_afm (s : State) (i : Fin 32) (x : Input) : (s.setInput i x).afm = s.afm := rfl
@[simp] theorem State.setInput_dfe (s : State) (i : Fin 32) (x : Input) : (s.setInput i x).dfe = s.dfe := rfl
@[simp] theorem State.setInput_trc (s : State) (i : Fin 32) (x : Input) : (s.setInput i x).trc = s.trc := rfl
@[simp] theorem State.setInput_spa (s : State) (i : Fin 32) (x : Input) : (s.setInput i x).spa = s.spa := rfl
@[simp] theorem State.setInput_tkc (s : State) (i : Fin 32) (x : Input) : (s.setInput i x).tkc = s.tkc := rfl
@[simp] theorem State.setInput_znt (s : State) (i : Fin 32) (x : Input) : (s.setInput i x).znt = s.znt := rfl
@[simp] theorem State.setInput_drc (s : State) (i : Fin 32) (x : Input) : (s.setInput i x).drc = s.drc := rfl
@[simp] theorem State.setInput_srs (s : State) (i : Fin 32) (x : Input) : (s.setInput i x).srs = s.srs := rfl
@[simp] theorem State.setInput_rpq (s : State) (i : Fin 32) (x : Input) : (s.setInput i x).rpq = s.rpq := rfl
@[simp] theorem State.setInput_lnk (s : State) (i : Fin 32) (x : Input) : (s.setInput i x).lnk = s.lnk := rfl
@[simp] theorem State.setInput_cfs (s : State) (i : Fin 32) (x : Input) : (s.setInput i x).cfs = s.cfs := rfl

@[simp] theorem State.setDoor_pending (s : State) (d : Fin 16) (x : Door) : (s.setDoor d x).pending = s.pending := rfl
@[simp] theorem State.setDoor_time (s : State) (d : Fin 16) (x : Door) : (s.setDoor d x).time = s.time := rfl
@[simp] theorem State.setDoor_draws (s : State) (d : Fin 16) (x : Door) : (s.setDoor d x).draws = s.draws := rfl
@[simp] theorem State.setDoor_afm (s : State) (d : Fin 16) (x : Door) : (s.setDoor d x).afm = s.afm := rfl
@[simp] theorem State.setDoor_dfe (s : State) (d : Fin 16) (x : Door) : (s.setDoor d x).dfe = s.dfe := rfl
@[simp] theorem State.setDoor_trc (s : State) (d : Fin 16) (x : Door) : (s.setDoor d x).trc = s.trc := rfl
@[simp] theorem State.setDoor_spa (s : State) (d : Fin 16) (x : Door) : (s.setDoor d x).spa = s.spa := rfl
@[simp] theorem State.setDoor_tkc (s : State) (d : Fin 16) (x : Door) : (s.setDoor d x).tkc = s.tkc := rfl
@[simp] theorem State.setDoor_znt (s : State) (d : Fin 16) (x : Door) : (s.setDoor d x).znt = s.znt := rfl
@[simp] theorem State.setDoor_fiu (s : State) (d : Fin 16) (x : Door) : (s.setDoor d x).fiu = s.fiu := rfl
@[simp] theorem State.setDoor_srs (s : State) (d : Fin 16) (x : Door) : (s.setDoor d x).srs = s.srs := rfl
@[simp] theorem State.setDoor_rpq (s : State) (d : Fin 16) (x : Door) : (s.setDoor d x).rpq = s.rpq := rfl
@[simp] theorem State.setDoor_lnk (s : State) (d : Fin 16) (x : Door) : (s.setDoor d x).lnk = s.lnk := rfl
@[simp] theorem State.setDoor_cfs (s : State) (d : Fin 16) (x : Door) : (s.setDoor d x).cfs = s.cfs := rfl

@[simp] theorem State.setSiren_pending (s : State) (i : Fin 8) (x : Siren) : (s.setSiren i x).pending = s.pending := rfl
@[simp] theorem State.setSiren_time (s : State) (i : Fin 8) (x : Siren) : (s.setSiren i x).time = s.time := rfl
@[simp] theorem State.setSiren_draws (s : State) (i : Fin 8) (x : Siren) : (s.setSiren i x).draws = s.draws := rfl
@[simp] theorem State.setSiren_afm (s : State) (i : Fin 8) (x : Siren) : (s.setSiren i x).afm = s.afm := rfl
@[simp] theorem State.setSiren_dfe (s : State) (i : Fin 8) (x : Siren) : (s.setSiren i x).dfe = s.dfe := rfl
@[simp] theorem State.setSiren_trc (s : State) (i : Fin 8) (x : Siren) : (s.setSiren i x).trc = s.trc := rfl
@[simp] theorem State.setSiren_spa (s : State) (i : Fin 8) (x : Siren) : (s.setSiren i x).spa = s.spa := rfl
@[simp] theorem State.setSiren_tkc (s : State) (i : Fin 8) (x : Siren) : (s.setSiren i x).tkc = s.tkc := rfl
@[simp] theorem State.setSiren_znt (s : State) (i : Fin 8) (x : Siren) : (s.setSiren i x).znt = s.znt := rfl
@[simp] theorem State.setSiren_fiu (s : State) (i : Fin 8) (x : Siren) : (s.setSiren i x).fiu = s.fiu := rfl
@[simp] theorem State.setSiren_drc (s : State) (i : Fin 8) (x : Siren) : (s.setSiren i x).drc = s.drc := rfl
@[simp] theorem State.setSiren_rpq (s : State) (i : Fin 8) (x : Siren) : (s.setSiren i x).rpq = s.rpq := rfl
@[simp] theorem State.setSiren_lnk (s : State) (i : Fin 8) (x : Siren) : (s.setSiren i x).lnk = s.lnk := rfl
@[simp] theorem State.setSiren_cfs (s : State) (i : Fin 8) (x : Siren) : (s.setSiren i x).cfs = s.cfs := rfl

@[simp] theorem State.setTables_pending (s : State) (x : Tables) : (s.setTables x).pending = s.pending := rfl
@[simp] theorem State.setTables_time (s : State) (x : Tables) : (s.setTables x).time = s.time := rfl
@[simp] theorem State.setTables_draws (s : State) (x : Tables) : (s.setTables x).draws = s.draws := rfl
@[simp] theorem State.setTables_afm (s : State) (x : Tables) : (s.setTables x).afm = s.afm := rfl
@[simp] theorem State.setTables_dfe (s : State) (x : Tables) : (s.setTables x).dfe = s.dfe := rfl
@[simp] theorem State.setTables_trc (s : State) (x : Tables) : (s.setTables x).trc = s.trc := rfl
@[simp] theorem State.setTables_spa (s : State) (x : Tables) : (s.setTables x).spa = s.spa := rfl
@[simp] theorem State.setTables_tkc (s : State) (x : Tables) : (s.setTables x).tkc = s.tkc := rfl
@[simp] theorem State.setTables_znt (s : State) (x : Tables) : (s.setTables x).znt = s.znt := rfl
@[simp] theorem State.setTables_fiu (s : State) (x : Tables) : (s.setTables x).fiu = s.fiu := rfl
@[simp] theorem State.setTables_drc (s : State) (x : Tables) : (s.setTables x).drc = s.drc := rfl
@[simp] theorem State.setTables_srs (s : State) (x : Tables) : (s.setTables x).srs = s.srs := rfl
@[simp] theorem State.setTables_rpq (s : State) (x : Tables) : (s.setTables x).rpq = s.rpq := rfl
@[simp] theorem State.setTables_lnk (s : State) (x : Tables) : (s.setTables x).lnk = s.lnk := rfl

@[simp] theorem State.setBank_pending (s : State) (x : Bank) : (s.setBank x).pending = s.pending := rfl
@[simp] theorem State.setBank_time (s : State) (x : Bank) : (s.setBank x).time = s.time := rfl
@[simp] theorem State.setBank_draws (s : State) (x : Bank) : (s.setBank x).draws = s.draws := rfl
@[simp] theorem State.setBank_afm (s : State) (x : Bank) : (s.setBank x).afm = s.afm := rfl
@[simp] theorem State.setBank_dfe (s : State) (x : Bank) : (s.setBank x).dfe = s.dfe := rfl
@[simp] theorem State.setBank_trc (s : State) (x : Bank) : (s.setBank x).trc = s.trc := rfl
@[simp] theorem State.setBank_spa (s : State) (x : Bank) : (s.setBank x).spa = s.spa := rfl
@[simp] theorem State.setBank_tkc (s : State) (x : Bank) : (s.setBank x).tkc = s.tkc := rfl
@[simp] theorem State.setBank_znt (s : State) (x : Bank) : (s.setBank x).znt = s.znt := rfl
@[simp] theorem State.setBank_fiu (s : State) (x : Bank) : (s.setBank x).fiu = s.fiu := rfl
@[simp] theorem State.setBank_drc (s : State) (x : Bank) : (s.setBank x).drc = s.drc := rfl
@[simp] theorem State.setBank_srs (s : State) (x : Bank) : (s.setBank x).srs = s.srs := rfl
@[simp] theorem State.setBank_lnk (s : State) (x : Bank) : (s.setBank x).lnk = s.lnk := rfl
@[simp] theorem State.setBank_cfs (s : State) (x : Bank) : (s.setBank x).cfs = s.cfs := rfl

/-! ### Reading an entry back -/

theorem State.air_setAir (s : State) (i j : Fin 4) (x : TrunkAir) : (s.setAir i x).air j = if i = j then x else s.air j := by
  simp [State.air, State.setAir, Vector.getElem_set, Fin.ext_iff]

@[simp] theorem State.air_setAir_same (s : State) (i : Fin 4) (x : TrunkAir) : (s.setAir i x).air i = x := by
  simp [State.air_setAir]

theorem State.air_setAir_ne (s : State) {i j : Fin 4} (x : TrunkAir) (h : i ≠ j) : (s.setAir i x).air j = s.air j := by
  simp [State.air_setAir, h]

theorem State.station_setStation (s : State) (i j : Fin 16) (x : Station) : (s.setStation i x).station j = if i = j then x else s.station j := by
  simp [State.station, State.setStation, Vector.getElem_set, Fin.ext_iff]

@[simp] theorem State.station_setStation_same (s : State) (i : Fin 16) (x : Station) : (s.setStation i x).station i = x := by
  simp [State.station_setStation]

theorem State.station_setStation_ne (s : State) {i j : Fin 16} (x : Station) (h : i ≠ j) : (s.setStation i x).station j = s.station j := by
  simp [State.station_setStation, h]

theorem State.valve_setValve (s : State) (i j : Fin 12) (x : Valve) : (s.setValve i x).valve j = if i = j then x else s.valve j := by
  simp [State.valve, State.setValve, Vector.getElem_set, Fin.ext_iff]

@[simp] theorem State.valve_setValve_same (s : State) (i : Fin 12) (x : Valve) : (s.setValve i x).valve i = x := by
  simp [State.valve_setValve]

theorem State.valve_setValve_ne (s : State) {i j : Fin 12} (x : Valve) (h : i ≠ j) : (s.setValve i x).valve j = s.valve j := by
  simp [State.valve_setValve, h]

theorem State.trunk_setTrunk (s : State) (i j : Fin 4) (x : Trunk) : (s.setTrunk i x).trunk j = if i = j then x else s.trunk j := by
  simp [State.trunk, State.setTrunk, Vector.getElem_set, Fin.ext_iff]

@[simp] theorem State.trunk_setTrunk_same (s : State) (i : Fin 4) (x : Trunk) : (s.setTrunk i x).trunk i = x := by
  simp [State.trunk_setTrunk]

theorem State.trunk_setTrunk_ne (s : State) {i j : Fin 4} (x : Trunk) (h : i ≠ j) : (s.setTrunk i x).trunk j = s.trunk j := by
  simp [State.trunk_setTrunk, h]

theorem State.zone_setZone (s : State) (i j : Fin 16) (x : Zone) : (s.setZone i x).zone j = if i = j then x else s.zone j := by
  simp [State.zone, State.setZone, Vector.getElem_set, Fin.ext_iff]

@[simp] theorem State.zone_setZone_same (s : State) (i : Fin 16) (x : Zone) : (s.setZone i x).zone i = x := by
  simp [State.zone_setZone]

theorem State.zone_setZone_ne (s : State) {i j : Fin 16} (x : Zone) (h : i ≠ j) : (s.setZone i x).zone j = s.zone j := by
  simp [State.zone_setZone, h]

theorem State.input_setInput (s : State) (i j : Fin 32) (x : Input) : (s.setInput i x).input j = if i = j then x else s.input j := by
  simp [State.input, State.setInput, Vector.getElem_set, Fin.ext_iff]

@[simp] theorem State.input_setInput_same (s : State) (i : Fin 32) (x : Input) : (s.setInput i x).input i = x := by
  simp [State.input_setInput]

theorem State.input_setInput_ne (s : State) {i j : Fin 32} (x : Input) (h : i ≠ j) : (s.setInput i x).input j = s.input j := by
  simp [State.input_setInput, h]

theorem State.door_setDoor (s : State) (i j : Fin 16) (x : Door) : (s.setDoor i x).door j = if i = j then x else s.door j := by
  simp [State.door, State.setDoor, Vector.getElem_set, Fin.ext_iff]

@[simp] theorem State.door_setDoor_same (s : State) (i : Fin 16) (x : Door) : (s.setDoor i x).door i = x := by
  simp [State.door_setDoor]

theorem State.door_setDoor_ne (s : State) {i j : Fin 16} (x : Door) (h : i ≠ j) : (s.setDoor i x).door j = s.door j := by
  simp [State.door_setDoor, h]

theorem State.siren_setSiren (s : State) (i j : Fin 8) (x : Siren) : (s.setSiren i x).siren j = if i = j then x else s.siren j := by
  simp [State.siren, State.setSiren, Vector.getElem_set, Fin.ext_iff]

@[simp] theorem State.siren_setSiren_same (s : State) (i : Fin 8) (x : Siren) : (s.setSiren i x).siren i = x := by
  simp [State.siren_setSiren]

theorem State.siren_setSiren_ne (s : State) {i j : Fin 8} (x : Siren) (h : i ≠ j) : (s.setSiren i x).siren j = s.siren j := by
  simp [State.siren_setSiren, h]

end Sys2Proof.Machine
end

