-- ==== Sys2Proof/Laws/Cascade.lean ====
section
/-! SUPPORT. What a change of a cause, a level or a trunk state can reach: the cascade through zones,
doors, sirens, trunks and scan states. `State.still` is all it never touches. -/

namespace Sys2Proof.Machine

/-- The part of the state that no cascade touches. -/
structure Still where
  pending : List Instr
  time : Time
  draws : Nat
  afm : Vector TrunkAir 4
  released : Bool
  viewSet : BitVec 16
  viewPos : Option (Fin 16)
  trc : Trc
  spa : Spa
  fiu : Vector Input 32
  lnk : Lnk
  cfs : Cfs

def State.still (s : State) : Still :=
  { pending := s.pending, time := s.time, draws := s.draws, afm := s.afm, released := s.dfe.released, viewSet := s.dfe.viewSet
    viewPos := s.dfe.viewPos, trc := s.trc, spa := s.spa, fiu := s.fiu, lnk := s.lnk, cfs := s.cfs }

theorem forEach_keeps {α β : Type} {f : α → State → State} (v : State → β) (h : ∀ a s, v (f a s) = v s) (l : List α) (s : State) :
    v (forEach l f s) = v s := by
  unfold forEach
  induction l generalizing s with
  | nil => rfl
  | cons a l ih => rw [List.foldl_cons, ih, h]

/-! ### Updates and records -/

@[simp] theorem still_setStation (s : State) (i : Fin 16) (x : Station) : (s.setStation i x).still = s.still := rfl
@[simp] theorem still_setTrunk (s : State) (t : Fin 4) (x : Trunk) : (s.setTrunk t x).still = s.still := rfl
@[simp] theorem still_setZone (s : State) (z : Fin 16) (x : Zone) : (s.setZone z x).still = s.still := rfl
@[simp] theorem still_setDoor (s : State) (d : Fin 16) (x : Door) : (s.setDoor d x).still = s.still := rfl
@[simp] theorem still_setSiren (s : State) (i : Fin 8) (x : Siren) : (s.setSiren i x).still = s.still := rfl
@[simp] theorem still_setBank (s : State) (x : Bank) : (s.setBank x).still = s.still := rfl
@[simp] theorem still_append (b : Body) (s : State) : (append b s).still = s.still := rfl
@[simp] theorem still_appendRise (b : Body) (s : State) : (appendRise b s).still = s.still := rfl
@[simp] theorem still_countStation (i : Fin 16) (f : StationCounters → StationCounters) (s : State) :
    (countStation i f s).still = s.still := rfl
@[simp] theorem still_countValve (v : Fin 12) (f : ValveCounters → ValveCounters) (s : State) :
    (countValve v f s).still = s.still := rfl
@[simp] theorem still_countTrunk (t : Fin 4) (f : TrunkCounters → TrunkCounters) (s : State) :
    (countTrunk t f s).still = s.still := rfl
@[simp] theorem still_driveStops (s : State) : (driveStops s).still = s.still := rfl

/-! ### Sirens -/

@[simp] theorem still_driveOutputs (n : Nat) (l : List (Fin 8)) (s : State) : (driveOutputs n l s).still = s.still := by
  induction n generalizing l s with
  | zero => rfl
  | succ n ih =>
    cases l with
    | nil => rfl
    | cons i rest =>
      unfold driveOutputs
      split
      · rw [ih]
      · rw [ih]; rfl

@[simp] theorem still_driveOutput (i : Fin 8) (s : State) : (driveOutput i s).still = s.still := still_driveOutputs ..

@[simp] theorem still_setSirenState (i : Fin 8) (st : SirenState) (s : State) : (setSirenState i st s).still = s.still := by
  simp [setSirenState]

@[simp] theorem still_soundPattern (i p : Fin 8) (s : State) : (soundPattern i p s).still = s.still := by simp [soundPattern]

@[simp] theorem still_startSiren (i : Fin 8) (s : State) : (startSiren i s).still = s.still := by
  unfold startSiren
  dsimp only
  split <;> simp <;> rfl

@[simp] theorem still_startQueued (n : Nat) (s : State) : (startQueued n s).still = s.still := by
  induction n generalizing s with
  | zero => rfl
  | succ n ih =>
    unfold startQueued
    split
    · split
      · rfl
      · rw [ih, still_startSiren]
    · rfl

@[simp] theorem still_judgeStarts (s : State) : (judgeStarts s).still = s.still := still_startQueued ..

@[simp] theorem still_abortSirenTest (i : Fin 8) (s : State) : (abortSirenTest i s).still = s.still := rfl

@[simp] theorem still_wantPattern (i p : Fin 8) (s : State) : (wantPattern i p s).still = s.still := by
  unfold wantPattern
  split <;> (try split) <;> simp

@[simp] theorem still_wantNone (i : Fin 8) (s : State) : (wantNone i s).still = s.still := by
  unfold wantNone
  split <;> simp

@[simp] theorem still_refreshSiren (i : Fin 8) (s : State) : (refreshSiren i s).still = s.still := by
  unfold refreshSiren
  split
  · rfl
  · split <;> simp

@[simp] theorem still_sirensOfZone (z : Fin 16) (s : State) : (sirensOfZone z s).still = s.still :=
  forEach_keeps _ still_refreshSiren _ s

/-! ### Doors -/

@[simp] theorem still_setDoorState (d : Fin 16) (st : DoorState) (s : State) : (setDoorState d st s).still = s.still := rfl

@[simp] theorem still_releaseOrWait (d : Fin 16) (src : Source) (s : State) : (releaseOrWait d src s).still = s.still :=
  still_setDoorState ..

@[simp] theorem still_requestRelease (d : Fin 16) (src : Source) (s : State) : (requestRelease d src s).still = s.still := by
  unfold requestRelease
  split <;> (try split) <;> simp

@[simp] theorem still_evalTrigger (d : Fin 16) (s : State) : (evalTrigger d s).still = s.still := by
  unfold evalTrigger
  split
  all_goals (try split) <;> (try split) <;> simp

@[simp] theorem still_doorsOfZone (z : Fin 16) (s : State) : (doorsOfZone z s).still = s.still :=
  forEach_keeps _ still_evalTrigger _ s

@[simp] theorem still_interlockFreed (t : Fin 4) (s : State) : (interlockFreed t s).still = s.still :=
  forEach_keeps _ (fun d s => still_setDoorState d _ s) _ s

/-! ### Zones -/

@[simp] theorem still_handLatched (z : Fin 16) (s : State) : (handLatched z s).still = s.still := by simp [handLatched]

@[simp] theorem still_riseLatched (z : Fin 16) (l : Level) (s : State) : (riseLatched z l s).still = s.still := by
  simp [riseLatched]

@[simp] theorem still_formCurrent (z : Fin 16) (s : State) : (formCurrent z s).still = s.still := rfl

@[simp] theorem still_refreshZone (z : Fin 16) (s : State) : (refreshZone z s).still = s.still := by
  unfold refreshZone holdLatched
  split <;> simp

@[simp] theorem still_refreshZones (s : State) : (refreshZones s).still = s.still := forEach_keeps _ still_refreshZone _ s

/-! ### Trunks -/

@[simp] theorem still_repaceStation (i : Fin 16) (s : State) : (repaceStation i s).still = s.still := by
  unfold repaceStation
  split <;> rfl

@[simp] theorem still_repaceTrunk (t : Fin 4) (s : State) : (repaceTrunk t s).still = s.still :=
  forEach_keeps _ still_repaceStation _ s

@[simp] theorem still_setProt (t : Fin 4) (p : Prot) (c : Cause) (s : State) : (setProt t p c s).still = s.still := by
  simp [setProt]

@[simp] theorem still_quietFan (t : Fin 4) (s : State) : (quietFan t s).still = s.still := by simp [quietFan]

@[simp] theorem still_superviseFanStop (t : Fin 4) (s : State) : (superviseFanStop t s).still = s.still := by
  unfold superviseFanStop
  split <;> simp

@[simp] theorem still_countHalt (t : Fin 4) (c : Cause) (s : State) : (countHalt t c s).still = s.still := by
  unfold countHalt
  split <;> rfl

@[simp] theorem still_enterHalt (t : Fin 4) (c : Cause) (s : State) : (enterHalt t c s).still = s.still := by simp [enterHalt]

@[simp] theorem still_enterStopping (t : Fin 4) (c : Cause) (s : State) : (enterStopping t c s).still = s.still := by
  unfold enterStopping
  dsimp only
  split <;> simp

@[simp] theorem still_superviseGate (t : Fin 4) (s : State) : (superviseGate t s).still = s.still := by
  unfold superviseGate
  split <;> rfl

@[simp] theorem still_enterDivert (t : Fin 4) (k : Fin 6) (s : State) : (enterDivert t k s).still = s.still := by
  simp [enterDivert]

@[simp] theorem still_enterWatch (t : Fin 4) (k : Fin 6) (s : State) : (enterWatch t k s).still = s.still := by simp [enterWatch]

@[simp] theorem still_enterRun (t : Fin 4) (s : State) : (enterRun t s).still = s.still := by simp [enterRun]

@[simp] theorem still_divertOrStop (t : Fin 4) (k : Fin 6) (s : State) : (divertOrStop t k s).still = s.still := by
  unfold divertOrStop
  split <;> simp

@[simp] theorem still_startDivertHold (t : Fin 4) (s : State) : (startDivertHold t s).still = s.still := by
  unfold startDivertHold
  split <;> rfl

@[simp] theorem still_actOn (t : Fin 4) (s : State) : (actOn t s).still = s.still := by
  unfold actOn
  split <;> simp

@[simp] theorem still_settle (n : Nat) (l : List (Fin 4)) (s : State) : (settle n l s).still = s.still := by
  induction n generalizing l s with
  | zero => rfl
  | succ n ih =>
    cases l with
    | nil => rfl
    | cons t rest =>
      unfold settle
      split <;> rw [ih, still_actOn]

@[simp] theorem still_settleAll (s : State) : (settleAll s).still = s.still := still_settle ..

@[simp] theorem still_causeChanged (z : Fin 16) (s : State) : (causeChanged z s).still = s.still := by simp [causeChanged]

@[simp] theorem still_testRun (t : Fin 4) (s : State) : (testRun t s).still = s.still := by
  unfold testRun
  split <;> simp

@[simp] theorem still_velocityChanged (t : Fin 4) (s : State) : (velocityChanged t s).still = s.still := by
  simp [velocityChanged]

@[simp] theorem still_arriveNew (t : Fin 4) (s : State) : (arriveNew t s).still = s.still := by simp [arriveNew]

@[simp] theorem still_arriveMissed (t : Fin 4) (s : State) : (arriveMissed t s).still = s.still := by simp [arriveMissed]

@[simp] theorem still_setSurvivor (t : Fin 4) (s : State) : (setSurvivor t s).still = s.still := by simp [setSurvivor]

@[simp] theorem still_clearSurvivors (z : Fin 16) (s : State) : (clearSurvivors z s).still = s.still :=
  forEach_keeps State.still (fun _ _ => still_setTrunk ..) _ s

@[simp] theorem still_endFanFault (t : Fin 4) (s : State) : (endFanFault t s).still = s.still := by
  unfold endFanFault
  split <;> rfl

@[simp] theorem still_handFan (t : Fin 4) (a : Bool) (s : State) : (handFan t a s).still = s.still := by
  unfold handFan
  dsimp only
  repeat' split
  all_goals simp

@[simp] theorem still_handGate (t : Fin 4) (a : Bool) (s : State) : (handGate t a s).still = s.still := by
  unfold handGate
  dsimp only
  repeat' split
  all_goals simp

/-! ### The fields one by one -/

theorem afm_of_still {s t : State} (h : t.still = s.still) : t.afm = s.afm := congrArg Still.afm h
theorem trc_of_still {s t : State} (h : t.still = s.still) : t.trc = s.trc := congrArg Still.trc h
theorem spa_of_still {s t : State} (h : t.still = s.still) : t.spa = s.spa := congrArg Still.spa h
theorem fiu_of_still {s t : State} (h : t.still = s.still) : t.fiu = s.fiu := congrArg Still.fiu h
theorem lnk_of_still {s t : State} (h : t.still = s.still) : t.lnk = s.lnk := congrArg Still.lnk h
theorem cfs_of_still {s t : State} (h : t.still = s.still) : t.cfs = s.cfs := congrArg Still.cfs h
theorem time_of_still {s t : State} (h : t.still = s.still) : t.time = s.time := congrArg Still.time h
theorem pending_of_still {s t : State} (h : t.still = s.still) : t.pending = s.pending := congrArg Still.pending h
theorem draws_of_still {s t : State} (h : t.still = s.still) : t.draws = s.draws := congrArg Still.draws h

end Sys2Proof.Machine
end

