-- ==== Sys2Proof/Laws/PerInstr.lean ====
section
/-! SUPPORT. A fact about every command, one lemma per constructor: the frame of a well-formed
command has a LEN the receiver takes (R170, R172). -/

namespace Sys2Proof.Laws

/-- The LEN byte of the command's frame, where it is carried by one, is one the receiver takes in LENGTH. -/
def Framed.Statement (i : Instr) : Prop := i.wellFormed = true → ∀ n, i.frameLen = some n → 2 ≤ n ∧ n ≤ 242

/-- An event is carried by no frame. -/
theorem framed_of_event {i : Instr} (h : i.frameLen = none) : Framed.Statement i := by
  intro _ n hn
  rw [h] at hn
  cases hn

/-- A command whose frame has `n` bytes from KIND on, when its form check bounds them. -/
theorem framed_of_len {i : Instr} {n : Nat} (h : i.frameLen = some n) (hb : i.wellFormed = true → 2 ≤ n ∧ n ≤ 242) :
    Framed.Statement i := by
  intro hw m hm
  rw [h] at hm
  cases hm
  exact hb hw

theorem payload_bound {p : List Byte} (h : payloadFits p = true) : 2 ≤ p.length + 2 ∧ p.length + 2 ≤ 242 := by
  have h' := of_decide_eq_true h
  omega

theorem entry_bound {e : List Byte} (h : entryFits e = true) : 2 ≤ e.length + 4 ∧ e.length + 4 ≤ 242 := by
  have h' := of_decide_eq_true h
  omega

theorem both_payload {c : Bool} {p : List Byte} (h : (c && payloadFits p) = true) : 2 ≤ p.length + 2 ∧ p.length + 2 ≤ 242 :=
  payload_bound (Bool.and_eq_true_iff.mp h).2

theorem body_bound {b : List Byte} (h : (decide (2 ≤ b.length) && decide (b.length ≤ 242)) = true) : 2 ≤ b.length ∧ b.length ≤ 242 := by
  have h' := Bool.and_eq_true_iff.mp h
  exact ⟨of_decide_eq_true h'.1, of_decide_eq_true h'.2⟩

theorem Framed.powerOn (strap : Bool) : Framed.Statement (.powerOn strap) :=
  framed_of_event rfl

theorem Framed.restart (strap : Bool) : Framed.Statement (.restart strap) :=
  framed_of_event rfl

theorem Framed.loadCompletion : Framed.Statement (.loadCompletion) :=
  framed_of_event rfl

theorem Framed.lineBreak : Framed.Statement (.lineBreak) :=
  framed_of_event rfl

theorem Framed.framingError : Framed.Statement (.framingError) :=
  framed_of_event rfl

theorem Framed.badLengthByte (b : Byte) : Framed.Statement (.badLengthByte b) :=
  framed_of_event rfl

theorem Framed.gapDeadline : Framed.Statement (.gapDeadline) :=
  framed_of_event rfl

theorem Framed.frameDiscard (body : List Byte) (crc : Byte) : Framed.Statement (.frameDiscard body crc) :=
  framed_of_len rfl body_bound

theorem Framed.unknownRequest (kind tag : Byte) (payload : List Byte) : Framed.Statement (.unknownRequest kind tag payload) :=
  framed_of_len rfl both_payload

theorem Framed.replySent : Framed.Statement (.replySent) :=
  framed_of_event rfl

theorem Framed.idRequest (tag : Byte) (payload : List Byte) : Framed.Statement (.idRequest tag payload) :=
  framed_of_len rfl payload_bound

theorem Framed.stat (tag : Byte) (payload : List Byte) : Framed.Statement (.stat tag payload) :=
  framed_of_len rfl payload_bound

theorem Framed.fetch (tag : Byte) (payload : List Byte) : Framed.Statement (.fetch tag payload) :=
  framed_of_len rfl payload_bound

theorem Framed.cntr (tag : Byte) (payload : List Byte) : Framed.Statement (.cntr tag payload) :=
  framed_of_len rfl payload_bound

theorem Framed.smpl (tag : Byte) (payload : List Byte) : Framed.Statement (.smpl tag payload) :=
  framed_of_len rfl payload_bound

theorem Framed.trks (tag : Byte) (payload : List Byte) : Framed.Statement (.trks tag payload) :=
  framed_of_len rfl payload_bound

theorem Framed.inps (tag : Byte) (payload : List Byte) : Framed.Statement (.inps tag payload) :=
  framed_of_len rfl payload_bound

theorem Framed.viewMask (tag : Byte) (payload : List Byte) : Framed.Statement (.viewMask tag payload) :=
  framed_of_len rfl both_payload

theorem Framed.viewNext (tag : Byte) : Framed.Statement (.viewNext tag) :=
  framed_of_len rfl (fun _ => by decide)

theorem Framed.zack (tag : Byte) (payload : List Byte) : Framed.Statement (.zack tag payload) :=
  framed_of_len rfl payload_bound

theorem Framed.hush (tag : Byte) (payload : List Byte) : Framed.Statement (.hush tag payload) :=
  framed_of_len rfl payload_bound

theorem Framed.sound (tag : Byte) (payload : List Byte) : Framed.Statement (.sound tag payload) :=
  framed_of_len rfl payload_bound

theorem Framed.zset (tag : Byte) (payload : List Byte) : Framed.Statement (.zset tag payload) :=
  framed_of_len rfl payload_bound

theorem Framed.trun (tag : Byte) (payload : List Byte) : Framed.Statement (.trun tag payload) :=
  framed_of_len rfl payload_bound

theorem Framed.thalt (tag : Byte) (payload : List Byte) : Framed.Statement (.thalt tag payload) :=
  framed_of_len rfl payload_bound

theorem Framed.dhold (tag : Byte) (payload : List Byte) : Framed.Statement (.dhold tag payload) :=
  framed_of_len rfl payload_bound

theorem Framed.dshut (tag : Byte) (payload : List Byte) : Framed.Statement (.dshut tag payload) :=
  framed_of_len rfl payload_bound

theorem Framed.htest (tag : Byte) (payload : List Byte) : Framed.Statement (.htest tag payload) :=
  framed_of_len rfl payload_bound

theorem Framed.vtest (tag : Byte) (payload : List Byte) : Framed.Statement (.vtest tag payload) :=
  framed_of_len rfl payload_bound

theorem Framed.stest (tag : Byte) (payload : List Byte) : Framed.Statement (.stest tag payload) :=
  framed_of_len rfl payload_bound

theorem Framed.cfgin (tag : Byte) (payload : List Byte) : Framed.Statement (.cfgin tag payload) :=
  framed_of_len rfl payload_bound

theorem Framed.cfgout (tag : Byte) (payload : List Byte) : Framed.Statement (.cfgout tag payload) :=
  framed_of_len rfl payload_bound

theorem Framed.tread (tag : Byte) (payload : List Byte) : Framed.Statement (.tread tag payload) :=
  framed_of_len rfl payload_bound

theorem Framed.twriteTrunk (tag index : Byte) (entry : List Byte) : Framed.Statement (.twriteTrunk tag index entry) :=
  framed_of_len rfl entry_bound

theorem Framed.twriteBranch (tag index : Byte) (entry : List Byte) : Framed.Statement (.twriteBranch tag index entry) :=
  framed_of_len rfl entry_bound

theorem Framed.twriteStation (tag index : Byte) (entry : List Byte) : Framed.Statement (.twriteStation tag index entry) :=
  framed_of_len rfl entry_bound

theorem Framed.twriteValve (tag index : Byte) (entry : List Byte) : Framed.Statement (.twriteValve tag index entry) :=
  framed_of_len rfl entry_bound

theorem Framed.twriteSupply (tag index : Byte) (entry : List Byte) : Framed.Statement (.twriteSupply tag index entry) :=
  framed_of_len rfl entry_bound

theorem Framed.twriteTrip (tag index : Byte) (entry : List Byte) : Framed.Statement (.twriteTrip tag index entry) :=
  framed_of_len rfl entry_bound

theorem Framed.twriteZone (tag index : Byte) (entry : List Byte) : Framed.Statement (.twriteZone tag index entry) :=
  framed_of_len rfl entry_bound

theorem Framed.twriteInput (tag index : Byte) (entry : List Byte) : Framed.Statement (.twriteInput tag index entry) :=
  framed_of_len rfl entry_bound

theorem Framed.twriteDoor (tag index : Byte) (entry : List Byte) : Framed.Statement (.twriteDoor tag index entry) :=
  framed_of_len rfl entry_bound

theorem Framed.twriteSiren (tag index : Byte) (entry : List Byte) : Framed.Statement (.twriteSiren tag index entry) :=
  framed_of_len rfl entry_bound

theorem Framed.twritePattern (tag index : Byte) (entry : List Byte) : Framed.Statement (.twritePattern tag index entry) :=
  framed_of_len rfl entry_bound

theorem Framed.twriteGlobal (tag index : Byte) (entry : List Byte) : Framed.Statement (.twriteGlobal tag index entry) :=
  framed_of_len rfl entry_bound

theorem Framed.store (tag : Byte) (payload : List Byte) : Framed.Statement (.store tag payload) :=
  framed_of_len rfl payload_bound

theorem Framed.storeCompletion (matched : Bool) : Framed.Statement (.storeCompletion matched) :=
  framed_of_event rfl

theorem Framed.rstrt (tag : Byte) (payload : List Byte) : Framed.Statement (.rstrt tag payload) :=
  framed_of_len rfl payload_bound

theorem Framed.goodReading (trunk : Fin 4) (value : Nat) : Framed.Statement (.goodReading trunk value) :=
  framed_of_event rfl

theorem Framed.outOfRangeReading (trunk : Fin 4) : Framed.Statement (.outOfRangeReading trunk) :=
  framed_of_event rfl

theorem Framed.holdExpiry (trunk : Fin 4) : Framed.Statement (.holdExpiry trunk) :=
  framed_of_event rfl

theorem Framed.detectorSample (station : Fin 16) (value : BitVec 12) : Framed.Statement (.detectorSample station value) :=
  framed_of_event rfl

theorem Framed.dutyWindowOpen (station : Fin 16) : Framed.Statement (.dutyWindowOpen station) :=
  framed_of_event rfl

theorem Framed.dutyWindowEnd (station : Fin 16) : Framed.Statement (.dutyWindowEnd station) :=
  framed_of_event rfl

theorem Framed.standingTimeReached (station : Fin 16) : Framed.Statement (.standingTimeReached station) :=
  framed_of_event rfl

theorem Framed.loopFault (station : Fin 16) (cond : LoopFault) : Framed.Statement (.loopFault station cond) :=
  framed_of_event rfl

theorem Framed.loopRecovery (station : Fin 16) : Framed.Statement (.loopRecovery station) :=
  framed_of_event rfl

theorem Framed.testWindowExpiry (station : Fin 16) : Framed.Statement (.testWindowExpiry station) :=
  framed_of_event rfl

theorem Framed.windowPass (track : Byte) : Framed.Statement (.windowPass track) :=
  framed_of_event rfl

theorem Framed.openTimeReached (valve : Fin 12) : Framed.Statement (.openTimeReached valve) :=
  framed_of_event rfl

theorem Framed.sprayMissed (valve : Fin 12) : Framed.Statement (.sprayMissed valve) :=
  framed_of_event rfl

theorem Framed.valveClose (valve : Fin 12) : Framed.Statement (.valveClose valve) :=
  framed_of_event rfl

theorem Framed.flowProveExpiry : Framed.Statement (.flowProveExpiry) :=
  framed_of_event rfl

theorem Framed.unexpectedFlowExpiry : Framed.Statement (.unexpectedFlowExpiry) :=
  framed_of_event rfl

theorem Framed.testSprayEnd (valve : Fin 12) : Framed.Statement (.testSprayEnd valve) :=
  framed_of_event rfl

theorem Framed.slotAdvance (trunk : Fin 4) : Framed.Statement (.slotAdvance trunk) :=
  framed_of_event rfl

theorem Framed.gateTimerExpiry (trunk : Fin 4) : Framed.Statement (.gateTimerExpiry trunk) :=
  framed_of_event rfl

theorem Framed.divertHoldExpiry (trunk : Fin 4) : Framed.Statement (.divertHoldExpiry trunk) :=
  framed_of_event rfl

theorem Framed.clearDelayExpiry (trunk : Fin 4) : Framed.Statement (.clearDelayExpiry trunk) :=
  framed_of_event rfl

theorem Framed.fanStopTimeout (trunk : Fin 4) : Framed.Statement (.fanStopTimeout trunk) :=
  framed_of_event rfl

theorem Framed.startTimeout (trunk : Fin 4) : Framed.Statement (.startTimeout trunk) :=
  framed_of_event rfl

theorem Framed.rawInputChange (input : Fin 32) (high : Bool) : Framed.Statement (.rawInputChange input high) :=
  framed_of_event rfl

theorem Framed.debounceExpiry (input : Fin 32) : Framed.Statement (.debounceExpiry input) :=
  framed_of_event rfl

theorem Framed.releaseDelayExpiry (door : Fin 16) : Framed.Statement (.releaseDelayExpiry door) :=
  framed_of_event rfl

theorem Framed.closeTimerExpiry (door : Fin 16) : Framed.Statement (.closeTimerExpiry door) :=
  framed_of_event rfl

theorem Framed.startSlotFree : Framed.Statement (.startSlotFree) :=
  framed_of_event rfl

theorem Framed.lastStartExpiry : Framed.Statement (.lastStartExpiry) :=
  framed_of_event rfl

theorem Framed.stepEnd (siren : Fin 8) : Framed.Statement (.stepEnd siren) :=
  framed_of_event rfl

theorem Framed.sirenTestEnd (siren : Fin 8) : Framed.Statement (.sirenTestEnd siren) :=
  framed_of_event rfl

theorem Framed.loadFault (siren : Fin 8) (cond : LoadFault) : Framed.Statement (.loadFault siren cond) :=
  framed_of_event rfl

theorem Framed.loadRecovery (siren : Fin 8) : Framed.Statement (.loadRecovery siren) :=
  framed_of_event rfl

theorem Framed.holdTimerExpiry : Framed.Statement (.holdTimerExpiry) :=
  framed_of_event rfl

theorem Framed.characterReceived (b : Byte) : Framed.Statement (.characterReceived b) :=
  framed_of_event rfl

end Sys2Proof.Laws
end

