-- ==== Sys2Proof/Laws/Sparks.lean ====
section
/-! SUPPORT. What tracks, sprays and detections can reach: `Still.calm` is what none of them touches. -/

namespace Sys2Proof.Machine

/-- The part of the state that no track, spray or detection touches. -/
structure Calm where
  pending : List Instr
  time : Time
  draws : Nat
  afm : Vector TrunkAir 4
  released : Bool
  viewSet : BitVec 16
  viewPos : Option (Fin 16)
  fiu : Vector Input 32
  lnk : Lnk
  cfs : Cfs

def Still.calm (x : Still) : Calm :=
  { pending := x.pending, time := x.time, draws := x.draws, afm := x.afm, released := x.released, viewSet := x.viewSet
    viewPos := x.viewPos, fiu := x.fiu, lnk := x.lnk, cfs := x.cfs }

@[simp] theorem calm_setTracks (s : State) (l : List Track) : (s.setTracks l).still.calm = s.still.calm := rfl
@[simp] theorem calm_setValve (s : State) (v : Fin 12) (x : Valve) : (s.setValve v x).still.calm = s.still.calm := rfl
@[simp] theorem calm_withSpa (s : State) (x : Spa) : ({ s with spa := x } : State).still.calm = s.still.calm := rfl
@[simp] theorem calm_withTrc (s : State) (x : Trc) : ({ s with trc := x } : State).still.calm = s.still.calm := rfl

/-! ### Tracks -/

@[simp] theorem calm_updateTrack (id : Byte) (f : Track → Track) (s : State) :
    (updateTrack id f s).still.calm = s.still.calm := rfl

@[simp] theorem calm_handSurvivor (k : Track) (o : TrackOutcome) (s : State) :
    (handSurvivor k o s).still.calm = s.still.calm := by
  unfold handSurvivor
  split <;> simp

@[simp] theorem calm_endTrack (k : Track) (o : TrackOutcome) (s : State) : (endTrack k o s).still.calm = s.still.calm := by
  unfold endTrack
  dsimp only
  split <;> simp

@[simp] theorem calm_judgeTrack (id : Byte) (s : State) : (judgeTrack id s).still.calm = s.still.calm := by
  unfold judgeTrack
  repeat' split
  all_goals simp

@[simp] theorem calm_noticeOpened (v : Fin 12) (id : Byte) (s : State) :
    (noticeOpened v id s).still.calm = s.still.calm := by
  unfold noticeOpened
  split <;> simp

@[simp] theorem calm_noticeMissed (v : Fin 12) (id : Byte) (s : State) :
    (noticeMissed v id s).still.calm = s.still.calm := by
  unfold noticeMissed
  split <;> simp

@[simp] theorem calm_noticeClosed (v : Fin 12) (id : Byte) (s : State) :
    (noticeClosed v id s).still.calm = s.still.calm := by
  unfold noticeClosed
  split <;> simp

@[simp] theorem calm_passWindow (id : Byte) (s : State) : (passWindow id s).still.calm = s.still.calm := by
  unfold passWindow
  repeat' split
  all_goals simp

@[simp] theorem calm_stallTracks (t : Fin 4) (s : State) : (stallTracks t s).still.calm = s.still.calm := rfl

/-! ### The supply -/

@[simp] theorem calm_evalProven (s : State) : (evalProven s).still.calm = s.still.calm := by
  unfold evalProven
  dsimp only
  split <;> rfl

@[simp] theorem calm_takeUnits (d : Nat) (c : ValveClass) (s : State) : (takeUnits d c s).still.calm = s.still.calm := by
  simp [takeUnits]

@[simp] theorem calm_releaseUnits (d : Nat) (c : ValveClass) (s : State) : (releaseUnits d c s).still.calm = s.still.calm := by
  simp [releaseUnits]

@[simp] theorem still_supplyCauses (s : State) : (supplyCauses s).still = s.still := by
  unfold supplyCauses
  rw [still_settleAll, forEach_keeps State.still still_refreshZone]

@[simp] theorem calm_setSupplyFault (s : State) : (setSupplyFault s).still.calm = s.still.calm := by
  unfold setSupplyFault
  split <;> simp

@[simp] theorem calm_clearSupplyFault (s : State) : (clearSupplyFault s).still.calm = s.still.calm := by
  unfold clearSupplyFault
  split <;> simp

@[simp] theorem calm_clearUnexpected (s : State) : (clearUnexpected s).still.calm = s.still.calm := by
  unfold clearUnexpected
  split <;> simp

@[simp] theorem calm_handFlow (a : Bool) (s : State) : (handFlow a s).still.calm = s.still.calm := by
  unfold handFlow
  dsimp only
  repeat' split
  all_goals simp

/-! ### Grants and requests -/

theorem calm_forEach {α : Type} {f : α → State → State} (h : ∀ a s, (f a s).still.calm = s.still.calm) (l : List α) (s : State) :
    (forEach l f s).still.calm = s.still.calm :=
  forEach_keeps (fun s => s.still.calm) h l s

@[simp] theorem calm_grant (v : Fin 12) (sch : Schedule) (s : State) : (grant v sch s).still.calm = s.still.calm := by
  simp [grant, calm_forEach]

@[simp] theorem calm_arbitrate (v : Fin 12) (sch : Schedule) (s : State) : (arbitrate v sch s).still.calm = s.still.calm := by
  unfold arbitrate
  split <;> simp

@[simp] theorem calm_scanValve (v : Fin 12) (s : State) : (scanValve v s).still.calm = s.still.calm := by
  unfold scanValve
  repeat' split
  all_goals simp

@[simp] theorem calm_releaseScan (s : State) : (releaseScan s).still.calm = s.still.calm := calm_forEach calm_scanValve _ s

@[simp] theorem calm_scheduleOrArbitrate (v : Fin 12) (sch : Schedule) (s : State) :
    (scheduleOrArbitrate v sch s).still.calm = s.still.calm := by
  unfold scheduleOrArbitrate
  split <;> simp

@[simp] theorem calm_takeOver (v : Fin 12) (r : SprayRequest) (s : State) : (takeOver v r s).still.calm = s.still.calm := by
  unfold takeOver
  dsimp only
  split <;> simp

@[simp] theorem calm_requestSpray (v : Fin 12) (r : SprayRequest) (s : State) :
    (requestSpray v r s).still.calm = s.still.calm := by
  unfold requestSpray
  split <;> simp

@[simp] theorem calm_sampleTrack (k : Track) (q : Option TaggedRequest) (s : State) :
    (sampleTrack k q s).still.calm = s.still.calm := by
  unfold sampleTrack
  repeat' split
  all_goals simp

@[simp] theorem calm_captureSample (v : Fin 12) (sch : Schedule) (g : Time) (l m : Bool) (s : State) :
    (captureSample v sch g l m s).still.calm = s.still.calm := by
  unfold captureSample
  repeat' split
  all_goals simp

@[simp] theorem calm_missSpray (v : Fin 12) (sch : Schedule) (s : State) : (missSpray v sch s).still.calm = s.still.calm := by
  simp [missSpray, calm_forEach]

@[simp] theorem calm_closeValve (v : Fin 12) (sch : Schedule) (g : Time) (l : Bool) (c : ValveClass) (s : State) :
    (closeValve v sch g l c s).still.calm = s.still.calm := by
  simp [closeValve, calm_forEach]

@[simp] theorem calm_stallValve (u : Time) (v : Fin 12) (s : State) : (stallValve u v s).still.calm = s.still.calm := by
  unfold stallValve
  split <;> simp

@[simp] theorem calm_arbitrateDue (v : Fin 12) (s : State) : (arbitrateDue v s).still.calm = s.still.calm := by
  unfold arbitrateDue
  split <;> simp

@[simp] theorem calm_stallValves (t : Fin 4) (s : State) : (stallValves t s).still.calm = s.still.calm := by
  unfold stallValves
  dsimp only
  rw [calm_forEach calm_arbitrateDue, calm_forEach (calm_stallValve _)]

@[simp] theorem calm_startTestSpray (v : Fin 12) (d : Nat) (s : State) : (startTestSpray v d s).still.calm = s.still.calm := by
  simp [startTestSpray]

@[simp] theorem calm_endTestSpray (v : Fin 12) (b : Bool) (s : State) : (endTestSpray v b s).still.calm = s.still.calm := by
  simp [endTestSpray]

/-! ### Detections -/

@[simp] theorem still_leaveTest (i : Fin 16) (r : TestResult) (s : State) : (leaveTest i r s).still = s.still := rfl

@[simp] theorem still_abortTest (i : Fin 16) (s : State) : (abortTest i s).still = s.still := by
  unfold abortTest
  split <;> simp

@[simp] theorem calm_askSpray (i : Fin 16) (t : Time) (id : Byte) (s : State) : (askSpray i t id s).still.calm = s.still.calm := by
  unfold askSpray
  split <;> simp

@[simp] theorem calm_setNext (id : Byte) (q l : Fin 16) (t : Time) (s : State) :
    (setNext id q l t s).still.calm = s.still.calm := by
  unfold setNext
  split <;> simp

@[simp] theorem calm_judgeSighting (i : Fin 16) (id : Byte) (a : Bool) (s : State) :
    (judgeSighting i id a s).still.calm = s.still.calm := by
  unfold judgeSighting judgeInlet
  repeat' split
  all_goals simp

@[simp] theorem calm_matchSighting (i : Fin 16) (t : Time) (k : Track) (s : State) :
    (matchSighting i t k s).still.calm = s.still.calm := by
  unfold matchSighting
  dsimp only
  split <;> simp

@[simp] theorem calm_makeRoom (s : State) : (makeRoom s).still.calm = s.still.calm := by
  unfold makeRoom
  repeat' split
  all_goals simp

@[simp] theorem calm_createTrack (i : Fin 16) (t : Time) (id : Byte) (s : State) :
    (createTrack i t id s).still.calm = s.still.calm := by
  simp [createTrack]

@[simp] theorem calm_sighting (i : Fin 16) (t : Time) (s : State) : (sighting i t s).still.calm = s.still.calm := by
  unfold sighting
  split <;> simp

@[simp] theorem calm_raisePeak (id : Byte) (p : Nat) (s : State) : (raisePeak id p s).still.calm = s.still.calm := rfl

@[simp] theorem calm_retarget (i : Fin 16) (s : State) : (retarget i s).still.calm = s.still.calm :=
  calm_forEach (fun k s => by simp [retargetTrack]) _ s

@[simp] theorem still_dropRun (i : Fin 16) (s : State) : (dropRun i s).still = s.still := by
  unfold dropRun
  dsimp only
  split <;> simp

@[simp] theorem calm_endRun (i : Fin 16) (e : Time) (s : State) : (endRun i e s).still.calm = s.still.calm := by
  unfold endRun
  split <;> simp

@[simp] theorem calm_openRun (i : Fin 16) (v : Nat) (s : State) : (openRun i v s).still.calm = s.still.calm := by
  simp [openRun]

@[simp] theorem still_becomeStanding (i : Fin 16) (s : State) : (becomeStanding i s).still = s.still := by
  simp [becomeStanding]

@[simp] theorem still_endHeadTest (i : Fin 16) (r : TestResult) (s : State) : (endHeadTest i r s).still = s.still := rfl

@[simp] theorem calm_enterFault (i : Fin 16) (c : LoopFault) (s : State) : (enterFault i c s).still.calm = s.still.calm := by
  unfold enterFault
  dsimp only
  split <;> simp

@[simp] theorem calm_stopScanning (i : Fin 16) (s : State) : (stopScanning i s).still.calm = s.still.calm := by
  simp [stopScanning]

@[simp] theorem still_leaveFault (i : Fin 16) (c : LoopFault) (x : Scan) (s : State) : (leaveFault i c x s).still = s.still := rfl

@[simp] theorem calm_leaveOff (i : Fin 16) (s : State) : (leaveOff i s).still.calm = s.still.calm := by
  unfold leaveOff
  split <;> simp

@[simp] theorem calm_reselect (i : Fin 16) (s : State) : (reselect i s).still.calm = s.still.calm := by
  unfold reselect
  dsimp only
  split <;> split <;> simp

@[simp] theorem calm_scanSample (i : Fin 16) (v : Nat) (s : State) : (scanSample i v s).still.calm = s.still.calm := by
  unfold scanSample
  repeat' split
  all_goals simp

@[simp] theorem calm_takeSample (i : Fin 16) (v : Nat) (s : State) : (takeSample i v s).still.calm = s.still.calm := by
  unfold takeSample
  dsimp only
  repeat' split
  all_goals simp

@[simp] theorem calm_startHeadTest (i : Fin 16) (s : State) : (startHeadTest i s).still.calm = s.still.calm := by
  simp [startHeadTest]

end Sys2Proof.Machine
end

