-- ==== Sys2Proof/Laws/Tables.lean ====
section
/-! SUPPORT. What the airflow, the field inputs and the table writes can reach: `Calm.fixed` is what
none of them touches once the entry written stands. -/

namespace Sys2Proof.Machine

/-- The part of the state that no command touches but a request to its owner, a table write, and a reset. -/
structure Fixed where
  pending : List Instr
  time : Time
  draws : Nat
  viewSet : BitVec 16
  viewPos : Option (Fin 16)
  lnk : Lnk
  tables : Tables
  copy : Tables
  copyGood : Bool
  storeState : StoreState
  storeLock : Bool
  storeInvalid : Bool
  strap : Bool

def Calm.fixed (x : Calm) : Fixed :=
  { pending := x.pending, time := x.time, draws := x.draws, viewSet := x.viewSet, viewPos := x.viewPos, lnk := x.lnk
    tables := x.cfs.tables, copy := x.cfs.copy, copyGood := x.cfs.copyGood, storeState := x.cfs.storeState
    storeLock := x.cfs.storeLock, storeInvalid := x.cfs.storeInvalid, strap := x.cfs.strap }

def State.fixed (s : State) : Fixed := s.still.calm.fixed

@[simp] theorem fixed_setAir (s : State) (t : Fin 4) (x : TrunkAir) : (s.setAir t x).still.calm.fixed = s.still.calm.fixed := rfl
@[simp] theorem fixed_setInput (s : State) (i : Fin 32) (x : Input) :
    (s.setInput i x).still.calm.fixed = s.still.calm.fixed := rfl

theorem fixed_forEach {α : Type} {f : α → State → State} (h : ∀ a s, (f a s).still.calm.fixed = s.still.calm.fixed)
    (l : List α) (s : State) : (forEach l f s).still.calm.fixed = s.still.calm.fixed :=
  forEach_keeps (fun s => s.still.calm.fixed) h l s

/-! ### Airflow -/

@[simp] theorem fixed_testStalled (t : Fin 4) (s : State) : (testStalled t s).still.calm.fixed = s.still.calm.fixed := by
  unfold testStalled
  dsimp only
  split <;> simp

@[simp] theorem fixed_moveVelocity (t : Fin 4) (v : Nat) (s : State) :
    (moveVelocity t v s).still.calm.fixed = s.still.calm.fixed := by
  simp [moveVelocity]

@[simp] theorem fixed_endVelocityFault (t : Fin 4) (s : State) :
    (endVelocityFault t s).still.calm.fixed = s.still.calm.fixed := by
  unfold endVelocityFault
  split <;> simp

@[simp] theorem fixed_filterReading (t : Fin 4) (r : Nat) (s : State) :
    (filterReading t r s).still.calm.fixed = s.still.calm.fixed := by
  unfold filterReading
  split <;> simp

@[simp] theorem fixed_beginVelocityFault (t : Fin 4) (s : State) :
    (beginVelocityFault t s).still.calm.fixed = s.still.calm.fixed := by
  simp [beginVelocityFault]

@[simp] theorem fixed_fallBack (t : Fin 4) (s : State) : (fallBack t s).still.calm.fixed = s.still.calm.fixed := by
  simp [fallBack]

@[simp] theorem fixed_airWritten (e : TrunkEntry) (t : Fin 4) (s : State) :
    (airWritten e t s).still.calm.fixed = s.still.calm.fixed := by
  unfold airWritten fallbackWritten velHoldWritten
  dsimp only
  repeat' split
  all_goals simp

/-! ### The keyswitch -/

@[simp] theorem fixed_releaseScanning (s : State) : (releaseScanning s).still.calm.fixed = s.still.calm.fixed := by
  unfold releaseScanning
  split
  · rfl
  · rw [calm_forEach calm_reselect]; rfl

@[simp] theorem fixed_endConfigInvalid (s : State) : (endConfigInvalid s).still.calm.fixed = s.still.calm.fixed := by
  unfold endConfigInvalid
  split <;> rfl

@[simp] theorem fixed_enterArmed (s : State) : (enterArmed s).still.calm.fixed = s.still.calm.fixed := by
  simp only [enterArmed, fixed_endConfigInvalid, fixed_releaseScanning]
  rfl

@[simp] theorem fixed_setConfigInvalid (s : State) : (setConfigInvalid s).still.calm.fixed = s.still.calm.fixed := by
  unfold setConfigInvalid
  split <;> rfl

@[simp] theorem fixed_keyOut (s : State) : (keyOut s).still.calm.fixed = s.still.calm.fixed := by
  unfold keyOut
  split <;> simp

@[simp] theorem fixed_handKey (m : Bool) (s : State) : (handKey m s).still.calm.fixed = s.still.calm.fixed := by
  unfold handKey
  dsimp only
  split
  · rfl
  · split
    · rw [fixed_keyOut]; rfl
    · rfl

/-! ### Field inputs -/

@[simp] theorem still_contactCloses (d : Fin 16) (s : State) : (contactCloses d s).still = s.still := by
  unfold contactCloses
  split <;> simp [endBlocked]

@[simp] theorem still_contactOpens (d : Fin 16) (s : State) : (contactOpens d s).still = s.still := by
  unfold contactOpens
  split <;> simp

@[simp] theorem still_handContact (d : Fin 16) (c : Bool) (s : State) : (handContact d c s).still = s.still := by
  unfold handContact
  dsimp only
  repeat' split
  all_goals simp

@[simp] theorem fixed_handRole (r : Role) (a : Bool) (s : State) : (handRole r a s).still.calm.fixed = s.still.calm.fixed := by
  unfold handRole
  split <;> simp

@[simp] theorem still_recordInput (i : Fin 32) (a : Bool) (s : State) : (recordInput i a s).still = s.still := by
  unfold recordInput
  split <;> simp

@[simp] theorem fixed_formActive (i : Fin 32) (s : State) : (formActive i s).still.calm.fixed = s.still.calm.fixed := by
  unfold formActive
  dsimp only
  repeat' split
  all_goals simp

@[simp] theorem fixed_takeDebounced (i : Fin 32) (s : State) : (takeDebounced i s).still.calm.fixed = s.still.calm.fixed := by
  simp [takeDebounced]

@[simp] theorem fixed_beginDebounce (i : Fin 32) (s : State) : (beginDebounce i s).still.calm.fixed = s.still.calm.fixed := by
  unfold beginDebounce
  dsimp only
  split <;> simp

@[simp] theorem fixed_rawReads (i : Fin 32) (h : Bool) (s : State) : (rawReads i h s).still.calm.fixed = s.still.calm.fixed := by
  unfold rawReads
  dsimp only
  repeat' split
  all_goals simp

@[simp] theorem fixed_leaveRole (e : InputEntry) (i : Fin 32) (s : State) :
    (leaveRole e i s).still.calm.fixed = s.still.calm.fixed := by
  unfold leaveRole
  dsimp only
  repeat' split
  all_goals simp

@[simp] theorem fixed_inputWritten (e : InputEntry) (i : Fin 32) (s : State) :
    (inputWritten e i s).still.calm.fixed = s.still.calm.fixed := by
  unfold inputWritten roleWritten reformInput
  dsimp only
  repeat' split
  all_goals simp

/-! ### Table writes, after the entry has been replaced -/

@[simp] theorem still_advanceSlot (t : Fin 4) (s : State) : (advanceSlot t s).still = s.still := by simp [advanceSlot]

@[simp] theorem still_fanStopExpires (t : Fin 4) (s : State) : (fanStopExpires t s).still = s.still := by
  simp [fanStopExpires]

@[simp] theorem still_trunkWritten (e : TrunkEntry) (t : Fin 4) (s : State) : (trunkWritten e t s).still = s.still := by
  unfold trunkWritten slotLenWritten fanStopWritten gateWritten beginTrunk dropTrunk
  dsimp only
  repeat' split
  all_goals simp

@[simp] theorem calm_reselectTrunk (t : Fin 4) (s : State) : (reselectTrunk t s).still.calm = s.still.calm :=
  calm_forEach calm_reselect _ s

@[simp] theorem still_zoneWritten (e : ZoneEntry) (z : Fin 16) (s : State) : (zoneWritten e z s).still = s.still := by
  unfold zoneWritten disableZone
  dsimp only
  repeat' split
  all_goals simp

@[simp] theorem still_blockDoor (d : Fin 16) (s : State) : (blockDoor d s).still = s.still := rfl

@[simp] theorem still_delayWritten (e : DoorEntry) (d : Fin 16) (s : State) : (delayWritten e d s).still = s.still := by
  unfold delayWritten
  dsimp only
  repeat' split
  all_goals simp

@[simp] theorem still_closeTimeoutWritten (e : DoorEntry) (d : Fin 16) (s : State) :
    (closeTimeoutWritten e d s).still = s.still := by
  unfold closeTimeoutWritten
  dsimp only
  repeat' split
  all_goals simp

@[simp] theorem still_interlockWritten (e : DoorEntry) (d : Fin 16) (s : State) :
    (interlockWritten e d s).still = s.still := by
  unfold interlockWritten
  repeat' split
  all_goals simp

@[simp] theorem still_disableDoor (d : Fin 16) (s : State) : (disableDoor d s).still = s.still := by
  unfold disableDoor
  split <;> simp [endBlocked]

@[simp] theorem still_doorWritten (e : DoorEntry) (d : Fin 16) (s : State) : (doorWritten e d s).still = s.still := by
  unfold doorWritten
  dsimp only
  repeat' split
  all_goals simp

@[simp] theorem still_reportLoad (i : Fin 8) (c : LoadFault) (s : State) : (reportLoad i c s).still = s.still := by
  unfold reportLoad
  split <;> simp

@[simp] theorem still_endLoadFault (i : Fin 8) (s : State) : (endLoadFault i s).still = s.still := by
  unfold endLoadFault
  split <;> simp

@[simp] theorem still_superviseLoad (i : Fin 8) (s : State) : (superviseLoad i s).still = s.still := by
  unfold superviseLoad
  repeat' split
  all_goals simp

@[simp] theorem still_disableSiren (i : Fin 8) (s : State) : (disableSiren i s).still = s.still := by
  unfold disableSiren dropSirenTest
  dsimp only
  repeat' split
  all_goals simp

@[simp] theorem still_sirenWritten (e : SirenEntry) (i : Fin 8) (s : State) : (sirenWritten e i s).still = s.still := by
  unfold sirenWritten
  dsimp only
  repeat' split
  all_goals simp

@[simp] theorem still_patternWritten (p : Fin 8) (s : State) : (patternWritten p s).still = s.still :=
  forEach_keeps State.still still_refreshSiren _ s

@[simp] theorem still_dutyRewritten (i : Fin 16) (s : State) : (dutyRewritten i s).still = s.still := by
  unfold dutyRewritten
  split <;> simp

end Sys2Proof.Machine
end

