-- ==== Sys2Proof/Laws/Steady.lean ====
section
/-! SUPPORT. What the escalation path leaves of the blocks it moves: `State.low` gathers the parts of
`SameBelow` that stand in them, and each operation of the cascade keeps it. -/

namespace Sys2Proof.Machine

/-- The steady part of every moved block, as one value: stations, trunks, MANUAL causes, door contacts,
siren faults and loads, and the counters but for halts by trip. -/
def State.low (s : State) :=
  ((fun i => (s.station i).steady), (fun k => (s.trunk k).steady), (fun z => (s.zone z).causes.manual),
    (fun d => (s.door d).contact), (fun i => ((s.siren i).fault, (s.siren i).load)), s.rpq.bank.station, s.rpq.bank.valve,
    (fun k : Fin 4 => (s.rpq.bank.trunk[k]).steady))

theorem sameBelow_of {s t : State} (h : t.still = s.still) (g : t.low = s.low) : SameBelow s t := by
  have e := g
  simp only [State.low, Prod.mk.injEq] at e
  obtain ⟨a, b, c, d, f, i, j, k⟩ := e
  exact
    { pending := congrArg Still.pending h, time := congrArg Still.time h, draws := congrArg Still.draws h
      afm := congrArg Still.afm h, released := congrArg Still.released h, viewSet := congrArg Still.viewSet h
      viewPos := congrArg Still.viewPos h, stations := congrFun a, trc := congrArg Still.trc h, spa := congrArg Still.spa h
      trunks := congrFun b, manual := congrFun c, fiu := congrArg Still.fiu h, contacts := congrFun d
      sirenFaults := fun i => congrArg Prod.fst (congrFun f i), sirenLoads := fun i => congrArg Prod.snd (congrFun f i)
      stationCounters := i, valveCounters := j, trunkCounters := congrFun k, lnk := congrArg Still.lnk h
      cfs := congrArg Still.cfs h }

/-! ### Replacing an entry -/

/-- A view of an entry taken after one entry was replaced by an equal view. -/
theorem view_set {α β : Type} {n : Nat} (v : Vector α n) (f : α → β) (i : Fin n) (x : α) (h : f x = f v[i]) (j : Fin n) :
    f (v.set i x)[j] = f v[j] := by
  by_cases e : i = j
  · subst e; simpa using h
  · have e' : i.val ≠ j.val := fun c => e (Fin.ext c)
    simp [e']

theorem low_setStation {s : State} {i : Fin 16} {x : Station} (h : x.steady = (s.station i).steady) :
    (s.setStation i x).low = s.low := by
  have e := fun j => view_set s.dfe.stations Station.steady i x h j
  simp only [State.low, Prod.mk.injEq]
  exact ⟨funext e, rfl, rfl, rfl, rfl, rfl, rfl, rfl⟩

theorem low_setTrunk {s : State} {k : Fin 4} {x : Trunk} (h : x.steady = (s.trunk k).steady) :
    (s.setTrunk k x).low = s.low := by
  have e := fun j => view_set s.tkc.trunks Trunk.steady k x h j
  simp only [State.low, Prod.mk.injEq]
  exact ⟨rfl, funext e, rfl, rfl, rfl, rfl, rfl, rfl⟩

theorem low_setZone {s : State} {z : Fin 16} {x : Zone} (h : x.causes.manual = (s.zone z).causes.manual) :
    (s.setZone z x).low = s.low := by
  have e := fun j => view_set s.znt (fun x : Zone => x.causes.manual) z x h j
  simp only [State.low, Prod.mk.injEq]
  exact ⟨rfl, rfl, funext e, rfl, rfl, rfl, rfl, rfl⟩

theorem low_setDoor {s : State} {d : Fin 16} {x : Door} (h : x.contact = (s.door d).contact) :
    (s.setDoor d x).low = s.low := by
  have e := fun j => view_set s.drc (fun x : Door => x.contact) d x h j
  simp only [State.low, Prod.mk.injEq]
  exact ⟨rfl, rfl, rfl, funext e, rfl, rfl, rfl, rfl⟩

theorem low_setSiren {s : State} {i : Fin 8} {x : Siren} (h : x.fault = (s.siren i).fault) (g : x.load = (s.siren i).load) :
    (s.setSiren i x).low = s.low := by
  have e := fun j => view_set s.srs.sirens (fun x : Siren => (x.fault, x.load)) i x (by rw [h, g]; rfl) j
  simp only [State.low, Prod.mk.injEq]
  exact ⟨rfl, rfl, rfl, rfl, funext e, rfl, rfl, rfl⟩

@[simp] theorem low_evalAttn (s : State) : (evalAttn s).low = s.low := rfl

theorem bank_joinQueue (x : Record) (now : Time) (h : Nat) (r : Rpq) : (joinQueue x now h r).bank = r.bank := by
  unfold joinQueue
  split
  · rfl
  · split <;> rfl

@[simp] theorem low_appendMarked (u : Bool) (b : Body) (s : State) : (appendMarked u b s).low = s.low := by
  simp only [appendMarked, low_evalAttn]
  unfold State.low
  dsimp only [State.station, State.trunk, State.zone, State.door, State.siren]
  rw [bank_joinQueue]

@[simp] theorem low_append (b : Body) (s : State) : (append b s).low = s.low := low_appendMarked ..
@[simp] theorem low_appendRise (b : Body) (s : State) : (appendRise b s).low = s.low := low_appendMarked ..
@[simp] theorem low_driveStops (s : State) : (driveStops s).low = s.low := rfl

/-! ### Sirens -/

@[simp] theorem low_driveOutputs (n : Nat) (l : List (Fin 8)) (s : State) : (driveOutputs n l s).low = s.low := by
  induction n generalizing l s with
  | zero => rfl
  | succ n ih =>
    cases l with
    | nil => rfl
    | cons i rest =>
      unfold driveOutputs
      split
      · rw [ih]
      · rw [ih]; exact low_setSiren rfl rfl

@[simp] theorem low_driveOutput (i : Fin 8) (s : State) : (driveOutput i s).low = s.low := low_driveOutputs ..

@[simp] theorem low_setSirenState (i : Fin 8) (st : SirenState) (s : State) : (setSirenState i st s).low = s.low := by
  simp only [setSirenState, low_driveOutput, low_append]
  exact low_setSiren rfl rfl

@[simp] theorem low_soundPattern (i p : Fin 8) (s : State) : (soundPattern i p s).low = s.low := by simp [soundPattern]

theorem low_withLastStart (s : State) (l : Option Time) : ({ s with srs := { s.srs with lastStart := l } } : State).low = s.low := rfl

@[simp] theorem low_startSiren (i : Fin 8) (s : State) : (startSiren i s).low = s.low := by
  unfold startSiren
  dsimp only
  split <;> simp [low_withLastStart]

@[simp] theorem low_startQueued (n : Nat) (s : State) : (startQueued n s).low = s.low := by
  induction n generalizing s with
  | zero => rfl
  | succ n ih =>
    unfold startQueued
    split
    · split
      · rfl
      · rw [ih, low_startSiren]
    · rfl

@[simp] theorem low_judgeStarts (s : State) : (judgeStarts s).low = s.low := low_startQueued ..

@[simp] theorem low_abortSirenTest (i : Fin 8) (s : State) : (abortSirenTest i s).low = s.low := by simp [abortSirenTest]

@[simp] theorem low_setSirenSt (i : Fin 8) (st : SirenState) (s : State) :
    (s.setSiren i { s.siren i with st := st }).low = s.low := low_setSiren rfl rfl

@[simp] theorem low_setSirenWanted (i : Fin 8) (w : Option (Fin 8)) (s : State) :
    (s.setSiren i { s.siren i with wanted := w }).low = s.low := low_setSiren rfl rfl

@[simp] theorem low_wantPattern (i p : Fin 8) (s : State) : (wantPattern i p s).low = s.low := by
  unfold wantPattern
  split <;> (try split) <;> simp

@[simp] theorem low_wantNone (i : Fin 8) (s : State) : (wantNone i s).low = s.low := by
  unfold wantNone
  split <;> simp

@[simp] theorem low_refreshSiren (i : Fin 8) (s : State) : (refreshSiren i s).low = s.low := by
  unfold refreshSiren
  split
  · rfl
  · split <;> simp

@[simp] theorem low_sirensOfZone (z : Fin 16) (s : State) : (sirensOfZone z s).low = s.low :=
  forEach_keeps State.low low_refreshSiren _ s

/-! ### Doors -/

@[simp] theorem low_setDoorState (d : Fin 16) (st : DoorState) (s : State) : (setDoorState d st s).low = s.low := by
  simp only [setDoorState, low_append]
  exact low_setDoor rfl

@[simp] theorem low_releaseOrWait (d : Fin 16) (src : Source) (s : State) : (releaseOrWait d src s).low = s.low :=
  low_setDoorState ..

@[simp] theorem low_requestRelease (d : Fin 16) (src : Source) (s : State) : (requestRelease d src s).low = s.low := by
  unfold requestRelease
  split <;> (try split) <;> simp

@[simp] theorem low_evalTrigger (d : Fin 16) (s : State) : (evalTrigger d s).low = s.low := by
  unfold evalTrigger
  split
  all_goals (try split) <;> (try split) <;> simp

@[simp] theorem low_doorsOfZone (z : Fin 16) (s : State) : (doorsOfZone z s).low = s.low :=
  forEach_keeps State.low low_evalTrigger _ s

@[simp] theorem low_interlockFreed (t : Fin 4) (s : State) : (interlockFreed t s).low = s.low :=
  forEach_keeps State.low (fun d s => low_setDoorState d _ s) _ s

/-! ### Zones -/

@[simp] theorem low_handLatched (z : Fin 16) (s : State) : (handLatched z s).low = s.low := by simp [handLatched]

theorem manual_rise (x : Zone) (l : Level) : (x.rise l).causes.manual = x.causes.manual := by
  unfold Zone.rise
  split <;> rfl

@[simp] theorem low_riseLatched (z : Fin 16) (l : Level) (s : State) : (riseLatched z l s).low = s.low := by
  simp only [riseLatched, low_handLatched, low_appendRise]
  exact low_setZone (manual_rise ..)

@[simp] theorem low_formCurrent (z : Fin 16) (s : State) : (formCurrent z s).low = s.low := low_setZone rfl

@[simp] theorem low_refreshZone (z : Fin 16) (s : State) : (refreshZone z s).low = s.low := by
  unfold refreshZone holdLatched
  split <;> simp

@[simp] theorem low_refreshZones (s : State) : (refreshZones s).low = s.low := forEach_keeps State.low low_refreshZone _ s

/-! ### Trunks -/

@[simp] theorem low_repaceStation (i : Fin 16) (s : State) : (repaceStation i s).low = s.low := by
  unfold repaceStation
  split <;> first | rfl | exact low_setStation rfl

@[simp] theorem low_repaceTrunk (t : Fin 4) (s : State) : (repaceTrunk t s).low = s.low :=
  forEach_keeps State.low low_repaceStation _ s

@[simp] theorem low_setProt (t : Fin 4) (p : Prot) (c : Cause) (s : State) : (setProt t p c s).low = s.low := by
  simp only [setProt, low_refreshZone, low_repaceTrunk, low_append, low_driveStops]
  exact low_setTrunk rfl

@[simp] theorem low_quietFan (t : Fin 4) (s : State) : (quietFan t s).low = s.low := by
  simp only [quietFan, low_interlockFreed]
  exact low_setTrunk rfl

@[simp] theorem low_superviseFanStop (t : Fin 4) (s : State) : (superviseFanStop t s).low = s.low := by
  unfold superviseFanStop
  split
  · exact low_setTrunk rfl
  · simp

@[simp] theorem low_countHalt (t : Fin 4) (c : Cause) (s : State) : (countHalt t c s).low = s.low := by
  unfold countHalt
  split
  · have e := fun j => view_set s.rpq.bank.trunk TrunkCounters.steady t
      { s.rpq.bank.trunk[t] with haltsByTrip := (s.rpq.bank.trunk[t]).haltsByTrip + 1 } rfl j
    simp only [State.low, countTrunk, Prod.mk.injEq]
    exact ⟨rfl, rfl, rfl, rfl, rfl, rfl, rfl, funext e⟩
  · rfl

@[simp] theorem low_enterHalt (t : Fin 4) (c : Cause) (s : State) : (enterHalt t c s).low = s.low := by
  simp only [enterHalt, low_superviseFanStop, low_countHalt, low_setProt]
  exact low_setTrunk rfl

@[simp] theorem low_enterStopping (t : Fin 4) (c : Cause) (s : State) : (enterStopping t c s).low = s.low := by
  unfold enterStopping
  dsimp only
  split
  · simp only [low_enterHalt, low_setProt]
    exact low_setTrunk rfl
  · simp only [low_setProt]
    exact low_setTrunk rfl

@[simp] theorem low_superviseGate (t : Fin 4) (s : State) : (superviseGate t s).low = s.low := by
  unfold superviseGate
  split <;> exact low_setTrunk rfl

@[simp] theorem low_stopTimers (t : Fin 4) (s : State) : (s.setTrunk t (s.trunk t).stopTimers).low = s.low := low_setTrunk rfl

@[simp] theorem low_enterDivert (t : Fin 4) (k : Fin 6) (s : State) : (enterDivert t k s).low = s.low := by
  simp [enterDivert]

@[simp] theorem low_enterWatch (t : Fin 4) (k : Fin 6) (s : State) : (enterWatch t k s).low = s.low := by simp [enterWatch]

@[simp] theorem low_enterRun (t : Fin 4) (s : State) : (enterRun t s).low = s.low := by simp [enterRun]

@[simp] theorem low_divertOrStop (t : Fin 4) (k : Fin 6) (s : State) : (divertOrStop t k s).low = s.low := by
  unfold divertOrStop
  split <;> simp

@[simp] theorem low_startDivertHold (t : Fin 4) (s : State) : (startDivertHold t s).low = s.low := by
  unfold startDivertHold
  split
  · rfl
  · exact low_setTrunk rfl

@[simp] theorem low_setDivertHold (t : Fin 4) (x : Option Time) (s : State) :
    (s.setTrunk t { s.trunk t with divertHold := x }).low = s.low := low_setTrunk rfl

@[simp] theorem low_actOn (t : Fin 4) (s : State) : (actOn t s).low = s.low := by
  unfold actOn
  split <;> simp

@[simp] theorem low_settle (n : Nat) (l : List (Fin 4)) (s : State) : (settle n l s).low = s.low := by
  induction n generalizing l s with
  | zero => rfl
  | succ n ih =>
    cases l with
    | nil => rfl
    | cons t rest =>
      unfold settle
      split <;> rw [ih, low_actOn]

@[simp] theorem low_settleAll (s : State) : (settleAll s).low = s.low := low_settle ..

@[simp] theorem low_causeChanged (z : Fin 16) (s : State) : (causeChanged z s).low = s.low := by simp [causeChanged]

@[simp] theorem low_testRun (t : Fin 4) (s : State) : (testRun t s).low = s.low := by
  unfold testRun
  split <;> simp

@[simp] theorem low_velocityChanged (t : Fin 4) (s : State) : (velocityChanged t s).low = s.low := by simp [velocityChanged]

theorem sameBelow_settleAll (s : State) : SameBelow s (settleAll s) := sameBelow_of (still_settleAll s) (low_settleAll s)

end Sys2Proof.Machine
end

