-- ==== Sys2Proof/Laws/Views.lean ====
section
/-! SUPPORT. A view of the state that zones, doors, sirens and records do not touch is kept by every
operation made of them: `tkc`, `dfe` and the like are such views. -/

namespace Sys2Proof.Machine

/-- A view that records and siren updates leave alone. -/
structure SirenFree {β : Type} (v : State → β) : Prop where
  mark : ∀ u b s, v (appendMarked u b s) = v s
  siren : ∀ i x s, v (State.setSiren s i x) = v s
  lastStart : ∀ (l : Option Time) (s : State), v { s with srs := { s.srs with lastStart := l } } = v s

/-- A view that records, sirens, doors and zones leave alone. -/
structure ZoneFree {β : Type} (v : State → β) : Prop extends SirenFree v where
  door : ∀ d x s, v (State.setDoor s d x) = v s
  zone : ∀ z x s, v (State.setZone s z x) = v s

variable {β : Type} {v : State → β}

theorem zoneFree_tkc : ZoneFree State.tkc := ⟨⟨fun _ _ _ => rfl, fun _ _ _ => rfl, fun _ _ => rfl⟩, fun _ _ _ => rfl, fun _ _ _ => rfl⟩
theorem zoneFree_dfe : ZoneFree State.dfe := ⟨⟨fun _ _ _ => rfl, fun _ _ _ => rfl, fun _ _ => rfl⟩, fun _ _ _ => rfl, fun _ _ _ => rfl⟩
theorem zoneFree_cfs : ZoneFree State.cfs := ⟨⟨fun _ _ _ => rfl, fun _ _ _ => rfl, fun _ _ => rfl⟩, fun _ _ _ => rfl, fun _ _ _ => rfl⟩
theorem sirenFree_znt : SirenFree State.znt := ⟨fun _ _ _ => rfl, fun _ _ _ => rfl, fun _ _ => rfl⟩
theorem sirenFree_drc : SirenFree State.drc := ⟨fun _ _ _ => rfl, fun _ _ _ => rfl, fun _ _ => rfl⟩

/-- All that stands beside the sirens, the report queue, the zones and the doors. -/
def State.beside (s : State) : State :=
  { s with srs := Srs.reset, rpq := { Rpq.reset with bank := s.rpq.bank }, znt := State.reset.znt, drc := State.reset.drc }

theorem beside_appendMarked (u : Bool) (b : Body) (s : State) : (appendMarked u b s).beside = s.beside := by
  simp only [appendMarked, evalAttn, State.beside]
  rw [bank_joinQueue]

theorem zoneFree_beside : ZoneFree State.beside :=
  ⟨⟨beside_appendMarked, fun _ _ _ => rfl, fun _ _ => rfl⟩, fun _ _ _ => rfl, fun _ _ _ => rfl⟩

/-! ### Sirens -/

namespace SirenFree

theorem driveOutputs (h : SirenFree v) (n : Nat) (l : List (Fin 8)) (s : State) : v (Machine.driveOutputs n l s) = v s := by
  induction n generalizing l s with
  | zero => rfl
  | succ n ih =>
    cases l with
    | nil => rfl
    | cons i rest =>
      unfold Machine.driveOutputs
      split
      · rw [ih]
      · rw [ih, h.siren]

theorem setSirenState (h : SirenFree v) (i : Fin 8) (st : SirenState) (s : State) : v (Machine.setSirenState i st s) = v s := by
  unfold Machine.setSirenState driveOutput append
  rw [h.driveOutputs, h.mark, h.siren]

theorem soundPattern (h : SirenFree v) (i p : Fin 8) (s : State) : v (Machine.soundPattern i p s) = v s := h.setSirenState ..

theorem startSiren (h : SirenFree v) (i : Fin 8) (s : State) : v (Machine.startSiren i s) = v s := by
  unfold Machine.startSiren
  dsimp only
  split <;> simp only [h.soundPattern, h.setSirenState, h.lastStart]

theorem judgeStarts (h : SirenFree v) (s : State) : v (Machine.judgeStarts s) = v s := by
  unfold Machine.judgeStarts
  generalize 8 = n
  induction n generalizing s with
  | zero => rfl
  | succ n ih =>
    unfold startQueued
    split
    · split
      · rfl
      · rw [ih, h.startSiren]
    · rfl

theorem wantPattern (h : SirenFree v) (i p : Fin 8) (s : State) : v (Machine.wantPattern i p s) = v s := by
  unfold Machine.wantPattern abortSirenTest append
  split <;> (try split) <;> simp only [h.judgeStarts, h.setSirenState, h.mark, h.siren, h.soundPattern]

theorem wantNone (h : SirenFree v) (i : Fin 8) (s : State) : v (Machine.wantNone i s) = v s := by
  unfold Machine.wantNone
  split <;> simp only [h.setSirenState, h.siren]

theorem refreshSiren (h : SirenFree v) (i : Fin 8) (s : State) : v (Machine.refreshSiren i s) = v s := by
  unfold Machine.refreshSiren
  split
  · rfl
  · split <;> simp only [h.wantPattern, h.wantNone, h.siren]

theorem sirensOfZone (h : SirenFree v) (z : Fin 16) (s : State) : v (Machine.sirensOfZone z s) = v s :=
  forEach_keeps v h.refreshSiren _ s

end SirenFree

/-! ### Doors and zones -/

namespace ZoneFree

theorem setDoorState (h : ZoneFree v) (d : Fin 16) (st : DoorState) (s : State) : v (Machine.setDoorState d st s) = v s := by
  unfold Machine.setDoorState append
  rw [h.mark, h.door]

theorem requestRelease (h : ZoneFree v) (d : Fin 16) (src : Source) (s : State) : v (Machine.requestRelease d src s) = v s := by
  unfold Machine.requestRelease releaseOrWait
  split <;> (try split) <;> simp only [h.setDoorState]

theorem evalTrigger (h : ZoneFree v) (d : Fin 16) (s : State) : v (Machine.evalTrigger d s) = v s := by
  unfold Machine.evalTrigger releaseOrWait
  split
  all_goals (try split) <;> (try split) <;> simp only [h.setDoorState, h.requestRelease]

theorem doorsOfZone (h : ZoneFree v) (z : Fin 16) (s : State) : v (Machine.doorsOfZone z s) = v s :=
  forEach_keeps v h.evalTrigger _ s

theorem interlockFreed (h : ZoneFree v) (t : Fin 4) (s : State) : v (Machine.interlockFreed t s) = v s :=
  forEach_keeps v (fun d s => h.setDoorState d _ s) _ s

theorem handLatched (h : ZoneFree v) (z : Fin 16) (s : State) : v (Machine.handLatched z s) = v s := by
  unfold Machine.handLatched
  rw [h.toSirenFree.sirensOfZone, h.doorsOfZone]

theorem refreshZone (h : ZoneFree v) (z : Fin 16) (s : State) : v (Machine.refreshZone z s) = v s := by
  unfold Machine.refreshZone holdLatched riseLatched appendRise formCurrent
  dsimp only
  split
  · rw [h.handLatched, h.mark, h.zone, h.zone]
  · rw [h.zone]

theorem refreshZones (h : ZoneFree v) (s : State) : v (Machine.refreshZones s) = v s := forEach_keeps v h.refreshZone _ s

end ZoneFree

/-! ### Trunks: a step of one trunk leaves the others -/

@[simp] theorem tkc_repaceTrunk (t : Fin 4) (s : State) : (repaceTrunk t s).tkc = s.tkc :=
  forEach_keeps State.tkc (fun i s => by unfold repaceStation; split <;> rfl) _ s

theorem trunk_setTrunk (s : State) (t : Fin 4) (x : Trunk) : (s.setTrunk t x).trunk t = x := by
  simp [State.setTrunk, State.trunk]

theorem trunk_setTrunk_ne (s : State) {t k : Fin 4} (x : Trunk) (h : k ≠ t) : (s.setTrunk t x).trunk k = s.trunk k := by
  have e : t.val ≠ k.val := fun c => h (Fin.ext c.symm)
  simp [State.setTrunk, State.trunk, e]

/-- What a change of state leaves of the trunk itself. -/
theorem trunk_setProt (t : Fin 4) (p : Prot) (c : Cause) (s : State) :
    (setProt t p c s).trunk t = (s.trunk t).inState (s.trunkEntry t).gatePresent p := by
  unfold setProt State.trunk
  dsimp only
  rw [zoneFree_tkc.refreshZone, tkc_repaceTrunk]
  exact trunk_setTrunk s t _

theorem trunk_setProt_ne {t k : Fin 4} (h : k ≠ t) (p : Prot) (c : Cause) (s : State) :
    (setProt t p c s).trunk k = s.trunk k := by
  unfold setProt State.trunk
  dsimp only
  rw [zoneFree_tkc.refreshZone, tkc_repaceTrunk]
  exact trunk_setTrunk_ne s _ h

@[simp] theorem trunk_countHalt (t k : Fin 4) (c : Cause) (s : State) : (countHalt t c s).trunk k = s.trunk k := by
  unfold countHalt
  split <;> rfl

theorem trunk_quietFan (t : Fin 4) (s : State) :
    (quietFan t s).trunk t = { s.trunk t with fanQuiet := true, fanStop := none } := by
  unfold quietFan
  rw [State.trunk, zoneFree_tkc.interlockFreed]
  exact trunk_setTrunk s t _

theorem trunk_quietFan_ne {t k : Fin 4} (h : k ≠ t) (s : State) : (quietFan t s).trunk k = s.trunk k := by
  unfold quietFan
  rw [State.trunk, zoneFree_tkc.interlockFreed]
  exact trunk_setTrunk_ne s _ h

theorem trunk_superviseFanStop_ne {t k : Fin 4} (h : k ≠ t) (s : State) : (superviseFanStop t s).trunk k = s.trunk k := by
  unfold superviseFanStop
  split
  · exact trunk_setTrunk_ne s _ h
  · exact trunk_quietFan_ne h s

theorem trunk_enterHalt_ne {t k : Fin 4} (h : k ≠ t) (c : Cause) (s : State) : (enterHalt t c s).trunk k = s.trunk k := by
  unfold enterHalt
  dsimp only
  rw [trunk_superviseFanStop_ne h, trunk_countHalt, trunk_setProt_ne h, trunk_setTrunk_ne s _ h]

theorem trunk_enterStopping_ne {t k : Fin 4} (h : k ≠ t) (c : Cause) (s : State) :
    (enterStopping t c s).trunk k = s.trunk k := by
  unfold enterStopping
  dsimp only
  split
  · rw [trunk_enterHalt_ne h, trunk_setProt_ne h, trunk_setTrunk_ne s _ h]
  · rw [trunk_setProt_ne h, trunk_setTrunk_ne s _ h]

theorem trunk_superviseGate_ne {t k : Fin 4} (h : k ≠ t) (s : State) : (superviseGate t s).trunk k = s.trunk k := by
  unfold superviseGate
  split <;> exact trunk_setTrunk_ne s _ h

theorem trunk_enterDivert_ne {t k : Fin 4} (h : k ≠ t) (d : Fin 6) (s : State) : (enterDivert t d s).trunk k = s.trunk k := by
  unfold enterDivert
  rw [trunk_superviseGate_ne h, trunk_setProt_ne h, trunk_setTrunk_ne s _ h]

theorem trunk_enterWatch_ne {t k : Fin 4} (h : k ≠ t) (d : Fin 6) (s : State) : (enterWatch t d s).trunk k = s.trunk k := by
  unfold enterWatch
  rw [trunk_setProt_ne h, trunk_setTrunk_ne s _ h]

theorem trunk_enterRun_ne {t k : Fin 4} (h : k ≠ t) (s : State) : (enterRun t s).trunk k = s.trunk k := by
  unfold enterRun
  rw [trunk_setProt_ne h, trunk_setTrunk_ne s _ h]

theorem trunk_divertOrStop_ne {t k : Fin 4} (h : k ≠ t) (d : Fin 6) (s : State) : (divertOrStop t d s).trunk k = s.trunk k := by
  unfold divertOrStop
  split
  · exact trunk_enterDivert_ne h d s
  · exact trunk_enterStopping_ne h _ s

theorem trunk_startDivertHold_ne {t k : Fin 4} (h : k ≠ t) (s : State) : (startDivertHold t s).trunk k = s.trunk k := by
  unfold startDivertHold
  split
  · rfl
  · exact trunk_setTrunk_ne s _ h

theorem trunk_actOn_ne {t k : Fin 4} (h : k ≠ t) (s : State) : (actOn t s).trunk k = s.trunk k := by
  unfold actOn
  split
  · exact trunk_enterWatch_ne h _ s
  · exact trunk_divertOrStop_ne h _ s
  · exact trunk_enterStopping_ne h _ s
  · exact trunk_enterHalt_ne h _ s
  · exact trunk_enterRun_ne h s
  · exact trunk_divertOrStop_ne h _ s
  · exact trunk_enterStopping_ne h _ s
  · exact trunk_enterHalt_ne h _ s
  · exact trunk_startDivertHold_ne h s
  · exact trunk_startDivertHold_ne h s
  · exact trunk_setTrunk_ne s _ h
  · exact trunk_enterStopping_ne h _ s
  · exact trunk_enterHalt_ne h _ s
  · exact trunk_enterHalt_ne h _ s
  · exact trunk_enterHalt_ne h _ s
  · exact trunk_enterHalt_ne h _ s
  · rfl

/-- A trunk in HALT stands: no target takes it out of HALT (R104). -/
theorem actOn_halt {t : Fin 4} {s : State} {c : Cause} (h : (s.trunk t).prot = .halt c) : actOn t s = s := by
  unfold actOn
  rw [h]

theorem trunk_settle_halt (n : Nat) (l : List (Fin 4)) (s : State) (k : Fin 4) (c : Cause) (h : (s.trunk k).prot = .halt c) :
    (settle n l s).trunk k = s.trunk k := by
  induction n generalizing l s with
  | zero => rfl
  | succ n ih =>
    cases l with
    | nil => rfl
    | cons t rest =>
      have e : (actOn t s).trunk k = s.trunk k := by
        by_cases g : k = t
        · subst g; rw [actOn_halt h]
        · exact trunk_actOn_ne g s
      unfold settle
      split <;> rw [ih _ _ (e ▸ h), e]

/-- A trunk in HALT is left as it is by every re-evaluation of targets. -/
theorem trunk_settleAll_halt {s : State} {k : Fin 4} {c : Cause} (h : (s.trunk k).prot = .halt c) :
    (settleAll s).trunk k = s.trunk k := trunk_settle_halt _ _ s k c h

end Sys2Proof.Machine
end

