-- ==== Sys2Proof/Tests/Slice0.lean ====
section
/-! SUPPORT. Tests on one small plant, after the manual's worked cases: the commands no sender can form, one step
for each command, and for each obligation with hypotheses a state and operands that meet them. -/

namespace Sys2Proof.Tests

open Sys2Proof Sys2Proof.Machine

set_option Elab.async false

/-! ### Commands no sender can form -/

theorem test_badLengthByte_must_be_bad : (Instr.badLengthByte 5).wellFormed = false := by decide
theorem test_badLengthByte_edges : (Instr.badLengthByte 1).wellFormed = true ∧ (Instr.badLengthByte 2).wellFormed = false ∧
    (Instr.badLengthByte 242).wellFormed = false ∧ (Instr.badLengthByte 243).wellFormed = true := by decide
theorem test_frameDiscard_needs_kind_and_tag : (Instr.frameDiscard [0x10] 0).wellFormed = false := by decide
theorem test_frameDiscard_fits_a_frame : (Instr.frameDiscard (List.replicate 243 0) 0).wellFormed = false := by decide +kernel
theorem test_unknownRequest_is_not_catalogued : (Instr.unknownRequest 0x10 0 []).wellFormed = false := by decide
theorem test_unknownRequest_payload_fits : (Instr.unknownRequest 0x99 0 (List.replicate 241 0)).wellFormed = false := by decide +kernel
theorem test_viewMask_has_a_mask : (Instr.viewMask 0 []).wellFormed = false := by decide
theorem test_payload_fits : (Instr.idRequest 0 (List.replicate 241 0)).wellFormed = false := by decide +kernel
theorem test_entry_fits : (Instr.twriteTrunk 0 0 (List.replicate 239 0)).wellFormed = false := by decide +kernel
theorem test_no_word_spells_a_command : decodeTableWord 8 0x10 = none := by decide

/-! ### The plant of section 3.2's worked case, with a door, two sirens and their zones -/

/-- Trunk 1 with branch 2, S3 and V2 on the branch, S5 on the trunk; door 3 of section 7.10; sirens 2 and 5 of
section 8.6. -/
def plant : Tables :=
  let x := Tables.default
  let x := { x with trunk := x.trunk.set 1 { TrunkEntry.default with enabled := true, filterZone := 4, gatePresent := true } }
  let x := { x with branch := x.branch.set 2 { trunk := 1, junction := 100, hallZone := 2, enabled := true } }
  let s3 : Position := { trunk := 1, branch := some 2, dist := 210 }
  let s5 : Position := { trunk := 1, branch := none, dist := 95 }
  let v2 : Position := { trunk := 1, branch := some 2, dist := 135 }
  let x := { x with station := x.station.set 3 { StationEntry.default with enabled := true, pos := s3, valve := some 2 } }
  let x := { x with station := x.station.set 5 { StationEntry.default with enabled := true, pos := s5 } }
  let x := { x with valve := x.valve.set 2 { ValveEntry.default with enabled := true, pos := v2, demand := 2 } }
  let x := { x with supply := { SupplyEntry.default with capacity := 6, reserve := 2 } }
  let x := { x with trip := x.trip.set 6 { kind := .tracksAtLeast, threshold := 3, action := .divert } }
  let x := { x with zone := ((x.zone.set 2 { kind := .hall, enabled := true }).set 4 { kind := .filter, enabled := true }).set 9 { kind := .yard, enabled := true } }
  let i := x.input
  let i := i.set 0 { role := .call 2, sense := .rising, debounce := 20 }
  let i := i.set 1 { role := .fan 1, sense := .activeHigh, debounce := 20 }
  let i := i.set 2 { role := .key, sense := .activeHigh, debounce := 20 }
  let i := i.set 3 { role := .flow, sense := .activeHigh, debounce := 0 }
  let i := i.set 14 { role := .door 3, sense := .activeHigh, debounce := 20 }
  let x := { x with input := i }
  let d3 : DoorEntry := { zoneA := 2, zoneB := some 4, level := .alert, delay := 20, interlock := some 1, closeTimeout := 10, enabled := true }
  let d4 : DoorEntry := { DoorEntry.default with zoneA := 2, enabled := true }
  let x := { x with door := (x.door.set 3 d3).set 4 d4 }
  let e : SirenEntry := { zones := 0x0204, watchPattern := none, alertPattern := some 1, firePattern := some 2, partner := none, enabled := true }
  let x := { x with siren := (x.siren.set 2 e).set 5 { e with zones := 0x0200 } }
  let slots (a b : Byte) : Vector Slot 16 := ((Vector.replicate 16 { out := 0, units := 1 }).set 0 { out := 1, units := a }).set 1 { out := 0, units := b }
  { x with pattern := (x.pattern.set 1 { count := 2, slots := slots 10 30 }).set 2 { count := 2, slots := slots 20 10 } }

/-- The part in ARMED at 10,000 with the plant's tables and trunk 1 in HALT. -/
def resting : State :=
  let s := State.reset
  let s := { s with time := 10000, cfs := { s.cfs with mode := .armed, tables := plant, copy := plant, copyGood := true } }
  let s := { s with dfe := { s.dfe with released := true } }
  let s := s.setTrunk 1 { Trunk.reset with prot := .halt .manual, gateOut := true, fanQuiet := true, nextAdvance := some 10000 }
  let s := (s.setStation 3 { Station.reset with scan := .cont }).setStation 5 { Station.reset with scan := .cont }
  { s with trc := { s.trc with idCounter := 17 } }

/-- The part with trunk 1 in RUN at 2350 cm/s. -/
def running : State :=
  let s := resting.setAir 1 { TrunkAir.reset with vf := 2350, stalled := false }
  s.setTrunk 1 { Trunk.reset with prot := .run, fanOut := true, fanIn := true, nextAdvance := some 10001 }

/-- The part in CONFIGURE. -/
def configuring : State := { resting with cfs := { resting.cfs with mode := .configure } }

/-- The part in START with the plant's tables to load. -/
def booting : State :=
  let s := { State.reset with cfs := { State.reset.cfs with tables := plant, copy := plant, copyGood := true, loadInvalid := false } }
  s.setTrunk 1 { Trunk.reset with gateOut := true }

/-- A reply being sent since `t`. -/
def sending (t : Time) (n : Nat) (s : State) : State :=
  { s with lnk := { s.lnk with tx := some { kind := 0x82, tag := 7, result := .ok, payload := List.replicate n 0, started := t } } }

/-- A part with its receiver in a state. -/
def receiving (r : Receiver) (s : State) : State := { s with lnk := { s.lnk with rx := r } }

/-- A part whose reply to RSTRT has been sent, with its RESTART due. -/
def restarting : State := { running with lnk := { running.lnk with restartPending := true } }

/-- The state a command leaves. -/
def took (c : Instr) (s : State) : State :=
  match exec c s with
  | .next t => t
  | .fault _ => s
  | .refused _ => s

/-- The result and payload of the reply being sent. -/
def reply (s : State) : Option (Result × List Byte) := s.lnk.tx.map (fun r => (r.result, r.payload))

/-- The bodies of the queued records. -/
def bodies (s : State) : List Body := s.rpq.queue.map Record.body

/-! ### Resets and the link -/

/-- R1: POWER-ON zeroes the time counter. -/
theorem test_powerOn_zeroes_time : (took (.powerOn false) running).time = 0 ∧ (took (.powerOn false) running).cfs.mode = .start := by
  decide +kernel

/-- R181: RESTART follows the reply of an accepted RSTRT and keeps the time. -/
theorem test_restart_follows_its_reply :
    (took (.restart true) { running with lnk := { running.lnk with restartPending := true } }).cfs.mode = .start ∧
      (took (.restart true) running).cfs.mode = .armed := by decide +kernel

/-- R195: the load over a bad copy sets STORE_INVALID and appends its FAULT record; R118: the trunk keeps cause START. -/
theorem test_loadCompletion_takes_starting_values :
    (took .loadCompletion State.reset).cfs.storeInvalid = true ∧ (took .loadCompletion State.reset).cfs.mode = .armed ∧
      bodies (took .loadCompletion State.reset) = [.fault .storeInvalid true] := by decide +kernel

/-- R181: a frame that was in progress at the RESTART has no reply. -/
theorem test_restart_abandons_its_frame : (took (.stat 7 []) restarting).lnk.tx = none ∧ (took (.stat 7 []) restarting).lnk.rx = .hunt := by
  decide +kernel

/-- R118: a disabled trunk with a gate has it at divert after a reset. -/
theorem test_reset_diverts_a_disabled_trunk :
    let x := { plant with trunk := plant.trunk.set 0 { TrunkEntry.default with gatePresent := true } }
    ((took (.powerOn false) { running with cfs := { running.cfs with copy := x } }).trunk 0).gateOut = true := by decide +kernel

theorem test_lineBreak_ends_a_frame : (took .lineBreak (receiving (.length 9990) running)).lnk.rx = .hunt := by decide +kernel
theorem test_framingError_ends_a_frame : (took .framingError (receiving (.body 3 [0x10] 9990) running)).lnk.rx = .hunt := by decide +kernel

/-- R172: LEN 1 abandons the frame. -/
theorem test_badLengthByte_abandons : (took (.badLengthByte 1) (receiving (.length 9990) running)).lnk.rx = .hunt := by decide +kernel

/-- R173: at 20 ms after the last byte the deadline has not passed, at 21 ms it has. -/
theorem test_gapDeadline_at_its_edge :
    (took .gapDeadline (receiving (.length 9980) running)).lnk.rx = .length 9980 ∧
      (took .gapDeadline (receiving (.length 9979) running)).lnk.rx = .hunt := by decide +kernel

/-- R174: a frame that completes while a reply is being sent is counted; one with a bad CRC is not. -/
theorem test_frameDiscard_counts_only_while_sending :
    (took (.frameDiscard [2, 7] 0) (sending 10000 182 running)).lnk.discarded = 1 ∧
      (took (.frameDiscard [2, 7] 0) running).lnk.discarded = 0 := by decide +kernel

/-- R170: a KIND with its top bit set is answered UNKNOWN with the KIND as received. -/
theorem test_unknownRequest_keeps_its_kind :
    (took (.unknownRequest 0x90 7 []) running).lnk.tx = some { kind := 0x90, tag := 7, result := .unknown, payload := [], started := 10000 } := by
  decide +kernel

/-- Section 9.7: the STAT reply of 188 bytes begun at 72,000 is sent until about 72,016.3. -/
theorem test_replySent_of_stat :
    (took .replySent (sending 72000 182 { running with time := 72016 })).lnk.tx = none ∧
      (took .replySent (sending 72000 182 { running with time := 72015 })).lnk.tx ≠ none := by decide +kernel

/-- R171: the register of x^8 + x^2 + x + 1 started at 0xFF gives 0xFB over the ASCII bytes "123456789". -/
theorem test_crc_of_the_check_string : crc8 [0x31, 0x32, 0x33, 0x34, 0x35, 0x36, 0x37, 0x38, 0x39] = 0xFB := by decide +kernel

/-- R172: SYNC begins a frame. -/
theorem test_characterReceived_sync : (took (.characterReceived 0xA5) running).lnk.rx = .length 10000 := by decide +kernel

/-! ### Requests -/

theorem test_idRequest_begins_with_the_part : (reply (took (.idRequest 7 []) running)).map (fun r => r.2.take 4) = some [0x41, 0x2C, 0x16, 0x07] := by
  decide +kernel
theorem test_stat_is_182_bytes : (reply (took (.stat 7 []) running)).map (fun r => r.2.length) = some 182 := by decide +kernel

/-- R186: an empty queue is answered with no record. -/
theorem test_fetch_of_an_empty_queue : reply (took (.fetch 7 []) running) = some (.ok, [0, 0]) := by decide +kernel
theorem test_cntr_of_a_trunk : (reply (took (.cntr 7 [2, 1, 0]) running)).map (fun r => r.2.length) = some 30 := by decide +kernel
theorem test_smpl_flag_above_one : reply (took (.smpl 7 [2]) running) = some (.range, []) := by decide +kernel
theorem test_trks_of_an_empty_table : reply (took (.trks 7 [0]) running) = some (.ok, [0, 0]) := by decide +kernel
theorem test_inps_before_any_change : reply (took (.inps 7 []) running) = some (.ok, [0, 0, 0, 0, 0, 0, 0, 0, 0, 0, 0, 0]) := by decide +kernel
theorem test_viewMask_starts_at_the_lowest : (took (.viewMask 7 [0xFF, 0]) running).dfe.viewPos = some 3 := by decide +kernel
theorem test_viewNext_of_an_empty_set : reply (took (.viewNext 7) running) = some (.range, []) := by decide +kernel

/-- R125: the latch comes down to a current level of NORMAL. -/
theorem test_zack_lowers_the_latch :
    ((took (.zack 7 [2]) (running.setZone 2 { Zone.reset with latched := .fire })).zone 2).latched = .normal := by decide +kernel
theorem test_hush_silences : ((took (.hush 7 [2]) (running.setZone 2 { Zone.reset with latched := .fire })).zone 2).hush = .fire := by decide +kernel
theorem test_sound_ends_a_hush :
    ((took (.sound 7 [2]) (running.setZone 2 { Zone.reset with latched := .fire, silenced := true, hush := .fire })).zone 2).silenced = false := by
  decide +kernel

/-- R128: the MANUAL cause raises the latched level; R141: FIRE releases door 4, which has no delay and no interlock. -/
theorem test_zset_raises_a_zone :
    ((took (.zset 7 [2, 3]) running).zone 2).latched = .fire ∧ ((took (.zset 7 [2, 3]) running).door 4).st = .released 10000 20000 := by
  decide +kernel

/-- R110: a halted trunk enters STARTING under its start timer of 30 s. -/
theorem test_trun_starts_a_trunk :
    ((took (.trun 7 [1]) resting).trunk 1).prot = .starting ∧ ((took (.trun 7 [1]) resting).trunk 1).startTimer = some 40000 := by
  decide +kernel

/-- R112: CLEAR of a running trunk waits its clear delay of 10 s. -/
theorem test_thalt_clear_waits :
    ((took (.thalt 7 [1, 0]) running).trunk 1).prot = .stopping .manual ∧ ((took (.thalt 7 [1, 0]) running).trunk 1).clearDelay = some 20000 := by
  decide +kernel
theorem test_thalt_now_stops_the_fan : ((took (.thalt 7 [1, 1]) running).trunk 1).fanOut = false := by decide +kernel

/-- Section 7.10: DHOLD of a closed door with its contact closed gives READY. -/
theorem test_dhold_of_a_closed_door :
    ((took (.dhold 7 [3]) (running.setDoor 3 { st := .closed, holder := false, contact := true })).door 3).st = .ready := by decide +kernel

/-- R149: a HELD door without an interlock is released with its close timer. -/
theorem test_dshut_releases : ((took (.dshut 7 [4]) running).door 4).st = .released 10000 20000 := by decide +kernel

/-- R33: the test window of 200 ms. -/
theorem test_htest_turns_the_emitter_on :
    ((took (.htest 7 [3]) running).station 3).scan = .test 10000 10200 ∧ ((took (.htest 7 [3]) running).station 3).emitter = true := by
  decide +kernel

/-- R89: a test spray of 500 ms draws the demand of 2. -/
theorem test_vtest_draws_its_units :
    ((took (.vtest 7 [2, 0xF4, 1]) resting).valve 2).st = .test 10500 false ∧ (took (.vtest 7 [2, 0xF4, 1]) resting).spa.units = 2 := by
  decide +kernel

/-- R163: a test of 1000 ms starts at once in a free slot. -/
theorem test_stest_starts : ((took (.stest 7 [2, 1, 0xE8, 3]) running).siren 2).st.phase = .test := by decide +kernel

/-- R191: refused while the keyswitch is in NORMAL. -/
theorem test_cfgin_needs_the_key :
    (took (.cfgin 7 []) running).cfs.mode = .armed ∧
      (took (.cfgin 7 []) { running with cfs := { running.cfs with key := true } }).cfs.mode = .configure := by decide +kernel
theorem test_cfgout_of_valid_tables : (took (.cfgout 7 []) configuring).cfs.mode = .armed := by decide +kernel

/-- R101: slot 0 of trunk 1 is entry 6: TRACKS_AT_LEAST 3, DIVERT. -/
theorem test_tread_of_a_trip_entry : reply (took (.tread 7 [5, 6]) running) = some (.ok, [5, 6, 1, 3, 0, 1]) := by decide +kernel

/-- R4: the defaults of a TRUNK entry, byte by byte, with `enabled` as given. -/
def trunkBytes (enabled : Byte) : List Byte :=
  [enabled, 0, 15, 0x20, 3, 0xB0, 4, 0xDC, 5, 5, 0x88, 0x13, 0xE8, 3, 10, 30, 0, 0, 0xE8, 3, 30, 60, 0]

theorem test_twriteTrunk_enables : ((took (.twriteTrunk 7 2 (trunkBytes 1)) configuring).trunk 2).prot = .halt .service := by decide +kernel
theorem test_twriteTrunk_flag_above_one : reply (took (.twriteTrunk 7 2 (trunkBytes 2)) configuring) = some (.range, []) := by decide +kernel
theorem test_twriteBranch_is_taken :
    (took (.twriteBranch 7 3 [1, 50, 0, 2, 1]) configuring).branchEntry 3 = { trunk := 1, junction := 50, hallZone := 2, enabled := true } := by
  decide +kernel

/-- R21: a hysteresis not below the spark threshold is RANGE. -/
theorem test_twriteStation_hysteresis :
    reply (took (.twriteStation 7 0 [0, 0, 0xFF, 0, 0, 0xFF, 0xE8, 3, 0xE8, 3, 0xD0, 7, 0x20, 3, 0]) configuring) = some (.range, []) ∧
      reply (took (.twriteStation 7 0 [0, 0, 0xFF, 0, 0, 0xFF, 0xE8, 3, 0xC8, 0, 0xD0, 7, 0x20, 3, 0]) configuring) = some (.ok, []) := by
  decide +kernel
theorem test_twriteValve_busy_in_a_test_spray :
    reply (took (.twriteValve 7 0 []) (configuring.setValve 2 { st := .test 10500 false, output := true })) = some (.length, []) ∧
      reply (took (.twriteValve 7 0 [0, 0, 0xFF, 0, 0, 1, 0, 80, 0, 0x58, 2, 150, 0])
        (configuring.setValve 2 { st := .test 10500 false, output := true })) = some (.busy, []) := by decide +kernel
theorem test_twriteSupply_index : reply (took (.twriteSupply 7 1 [6, 2, 0, 0xF4, 1, 0xD0, 7, 10]) configuring) = some (.range, []) := by decide +kernel
/-- R102: a zone kind with threshold 0 is true, also on a trunk without an enabled branch. -/
theorem test_zone_threshold_zero_is_true :
    tripTrue (running.setTables { plant with trip := plant.trip.set 0 { kind := .hallZoneAtLeast, threshold := 0, action := .watch } }) 0 0 = true := by
  decide +kernel
theorem test_twriteTrip_is_taken : (took (.twriteTrip 7 7 [5, 0xE8, 3, 3]) configuring).tripEntry 1 1 = { kind := .velocityBelow, threshold := 1000, action := .haltNow } := by
  decide +kernel
theorem test_twriteZone_disables : ((took (.twriteZone 7 2 [0, 0]) (configuring.setZone 2 { Zone.reset with latched := .fire })).zone 2).latched = .normal := by
  decide +kernel
theorem test_twriteInput_is_taken : (took (.twriteInput 7 9 [7, 0xFF, 1, 0x32, 0]) configuring).inputEntry 9 = { role := .key, sense := .activeLow, debounce := 50 } := by
  decide +kernel
theorem test_twriteDoor_disables : ((took (.twriteDoor 7 4 [2, 0xFF, 3, 0, 0xFF, 10, 0]) configuring).door 4).st = .disabled := by decide +kernel
theorem test_twriteSiren_disables :
    ((took (.twriteSiren 7 2 [4, 2, 0xFF, 1, 2, 0xFF, 0]) (configuring.setSiren 2 { Siren.reset with wanted := some 1 })).siren 2).wanted = none := by
  decide +kernel
theorem test_twritePattern_count : ((took (.twritePattern 7 3 (1 :: 1 :: 20 :: (List.replicate 15 [0, 1]).flatten)) configuring).patternEntry 3).count = 1 := by
  decide +kernel
theorem test_twriteGlobal_hold_time :
    reply (took (.twriteGlobal 7 0 [100, 0, 8, 0xF4, 1, 0, 1, 0xF4, 1, 0xDC, 5, 0xB8, 11, 0xE8, 3, 200, 0]) configuring) = some (.ok, []) := by
  decide +kernel

theorem test_store_spoils_the_copy : (took (.store 7 []) configuring).cfs.copyGood = false := by decide +kernel
theorem test_storeCompletion_of_a_mismatch :
    (took (.storeCompletion false) { configuring with cfs := { configuring.cfs with storeState := .running 9500 } }).cfs.storeLock = true := by
  decide +kernel
theorem test_rstrt_sets_the_restart : (took (.rstrt 7 []) configuring).lnk.restartPending = true := by decide +kernel

/-! ### Airflow -/

/-- R12's examples: 2400 towards 2500 gives 2413, towards 2300 gives 2388. -/
theorem test_goodReading_examples :
    ((took (.goodReading 1 2500) (running.setAir 1 { TrunkAir.reset with vf := 2400, stalled := false })).air 1).vf = 2413 ∧
      ((took (.goodReading 1 2300) (running.setAir 1 { TrunkAir.reset with vf := 2400, stalled := false })).air 1).vf = 2388 := by
  decide +kernel
theorem test_outOfRangeReading_begins_the_hold : ((took (.outOfRangeReading 1) running).air 1).holdExpiry = some 15000 := by decide +kernel
theorem test_holdExpiry_takes_the_fallback :
    ((took (.holdExpiry 1) (running.setAir 1 { TrunkAir.reset with vf := 2350, stalled := false, stage := .hold, holdExpiry := some 10000 })).air 1).vf = 1500 := by
  decide +kernel

/-! ### Detectors and tracks -/

/-- Section 3.2's worked case: a detection at S3 opens a track with the window [10,415, 10,563] at S5 and the
schedule of V2 from 10,191 to 10,791. -/
theorem test_detectorSample_worked_window :
    (took (.detectorSample 3 1420) running).trc.tracks.map Track.next = [some { station := 5, early := 10415, late := 10563 }] := by
  decide +kernel
theorem test_detectorSample_worked_spray :
    ((took (.detectorSample 3 1420) running).valve 2).st =
      .scheduled { openTime := 10191, closeTime := 10791, lateStart := false, merged := 1, requests := [17] } := by decide +kernel
theorem test_dutyWindowOpen_due :
    ((took (.dutyWindowOpen 3) (resting.setStation 3 { Station.reset with scan := .duty 9000 false 10000 })).station 3).scan = .duty 10000 true 11000 := by
  decide +kernel
theorem test_dutyWindowEnd_due :
    ((took (.dutyWindowEnd 3) (resting.setStation 3 { Station.reset with scan := .duty 9980 true 10980 })).station 3).scan = .duty 9980 false 10980 := by
  decide +kernel
theorem test_standingTimeReached_is_fire :
    ((took (.standingTimeReached 3) (running.setStation 3 { Station.reset with scan := .cont, run := some { detected := 8000, peak := 1420, track := some 17 } })).zone 2).latched = .fire := by
  decide +kernel
/-- R29, R102 to R104: the standing light makes its trip entry true, and the trunk halts with its slot as cause. -/
theorem test_standingTimeReached_trips :
    ((took (.standingTimeReached 3) ((running.setTables { plant with trip := plant.trip.set 6 { kind := .standingLight, threshold := 0, action := .haltNow } }).setStation 3
      { Station.reset with scan := .cont, run := some { detected := 8000, peak := 1420, track := some 17 } })).trunk 1).prot = .halt (.trip 0) := by
  decide +kernel
theorem test_loopFault_enters_fault : ((took (.loopFault 3 .openLoop) running).station 3).scan = .fault .openLoop := by decide +kernel
theorem test_loopRecovery_scans_again :
    ((took (.loopRecovery 3) (running.setStation 3 { Station.reset with scan := .fault .shortLoop, loop := some .shortLoop })).station 3).scan = .cont := by
  decide +kernel
theorem test_testWindowExpiry_fails :
    ((took (.testWindowExpiry 3) (running.setStation 3 { Station.reset with scan := .test 9800 10000, emitter := true })).station 3).lastResult = .fail := by
  decide +kernel

/-- Track 17 of section 3.2, awaited at S5 until `late`. -/
def spark (late : Time) : Track :=
  { id := 17, trunk := 1, origin := 3, originTime := 9000, last := 3, lastTime := 9000, peak := 1420, sightings := 1
    next := some { station := 5, early := 9415, late := late }, valve := some 2, outcome := .opened, sprayClosed := false
    passes := 0, tagged := false }

/-- The running part with that track. -/
def tracked (late : Time) : State := { running with trc := { tracks := [spark late], idCounter := 18 } }

/-- Section 3.2's sequence: the window passes 1 ms after its late bound, and the track ends EXTINGUISHED. -/
theorem test_windowPass_after_the_late_bound :
    bodies (took (.windowPass 17) (tracked 9999)) = [.trackEnd 17 1 .extinguished 1 0] ∧
      (took (.windowPass 17) (tracked 10000)).trc.tracks.length = 1 := by decide +kernel

/-! ### Sprays and the supply -/

/-- A schedule of V2. -/
def sch (opens closes : Time) : Schedule := { openTime := opens, closeTime := closes, lateStart := false, merged := 0, requests := [17] }

/-- Section 4.10: V4 of demand 2 does not fit beside 4 non-FILTER units of C = 6, R = 2, and fits beside 2. -/
theorem test_openTimeReached_against_the_reserve :
    ((took (.openTimeReached 2) (({ running with spa := { running.spa with units := 4, nonFilter := 4 } }).setValve 2
      { st := .scheduled (sch 10000 10600), output := false })).valve 2).output = false ∧
    ((took (.openTimeReached 2) (({ running with spa := { running.spa with units := 2, nonFilter := 2 } }).setValve 2
      { st := .scheduled (sch 10000 10600), output := false })).valve 2).output = true := by decide +kernel
theorem test_sprayMissed_after_its_close_time :
    ((took (.sprayMissed 2) (running.setValve 2 { st := .waiting (sch 9000 9999) 9000, output := false })).trunk 1).missedRing[(0 : Fin 8)] = 1 := by
  decide +kernel
theorem test_valveClose_gives_back :
    (took (.valveClose 2) (({ running with spa := { running.spa with units := 2, nonFilter := 2 } }).setValve 2
      { st := .spraying (sch 9000 10000) 9000 false .branch, output := true })).spa.units = 0 := by decide +kernel
theorem test_flowProveExpiry_without_flow :
    ((took .flowProveExpiry { running with spa := { running.spa with proveExpiry := some 10000 } }).zone 4).latched = .alert := by decide +kernel
theorem test_unexpectedFlowExpiry_raises :
    (took .unexpectedFlowExpiry { running with spa := { running.spa with unexpExpiry := some 10000, flow := true } }).spa.unexpRaised = true := by
  decide +kernel
theorem test_testSprayEnd_passes_with_flow :
    bodies (took (.testSprayEnd 2) (({ resting with spa := { resting.spa with units := 2, nonFilter := 2 } }).setValve 2
      { st := .test 10000 true, output := true })) = [.testResult (.spray 2) .pass] := by decide +kernel

/-! ### Trunks -/

theorem test_slotAdvance_moves_one_slot : ((took (.slotAdvance 1) resting).trunk 1).slot = 1 := by decide +kernel
theorem test_gateTimerExpiry_halts :
    ((took (.gateTimerExpiry 1) (running.setTrunk 1 { running.trunk 1 with prot := .divert, gateOut := true, gateTimer := some 10000 })).trunk 1).prot = .halt .gateFault := by
  decide +kernel
theorem test_divertHoldExpiry_runs :
    ((took (.divertHoldExpiry 1) (running.setTrunk 1 { running.trunk 1 with prot := .divert, gateOut := true, divertHold := some 10000 })).trunk 1).prot = .run := by
  decide +kernel
theorem test_clearDelayExpiry_halts :
    ((took (.clearDelayExpiry 1) (running.setTrunk 1 { running.trunk 1 with prot := .stopping .manual, clearDelay := some 10000 })).trunk 1).prot = .halt .manual := by
  decide +kernel

/-- Section 7.10: the fan stop timeout sets FAN_FAULT with its urgent record and releases a waiting door. -/
theorem test_fanStopTimeout_releases :
    bodies (took (.fanStopTimeout 1) ((resting.setTrunk 1 { resting.trunk 1 with fanStop := some 10000, fanQuiet := false }).setDoor 3
      { st := .waitFan .level, holder := true, contact := false })) = [.doorState 3 .released, .fault (.fan 1) true] := by decide +kernel
theorem test_startTimeout_fails :
    ((took (.startTimeout 1) (running.setTrunk 1 { running.trunk 1 with prot := .starting, startTimer := some 10000 })).trunk 1).prot = .halt .startFail := by
  decide +kernel

/-! ### Inputs and doors -/

theorem test_rawInputChange_begins_a_debounce : ((took (.rawInputChange 0 true) running).input 0).differs = some 10000 := by decide +kernel
theorem test_debounceExpiry_of_a_call_point :
    ((took (.debounceExpiry 0) (running.setInput 0 { Input.reset with raw := true, differs := some 9980 })).zone 2).latched = .fire := by decide +kernel
theorem test_releaseDelayExpiry_waits_for_the_fan :
    ((took (.releaseDelayExpiry 3) (running.setDoor 3 { st := .delayed 0 10000, holder := true, contact := false })).door 3).st = .waitFan .level := by
  decide +kernel
theorem test_closeTimerExpiry_blocks :
    ((took (.closeTimerExpiry 3) (running.setDoor 3 { st := .released 0 10000, holder := false, contact := false })).door 3).st = .blocked := by
  decide +kernel

/-! ### Sirens and reports -/

/-- Section 8.6: a start enters step 0, on for 500 ms. -/
theorem test_startSlotFree_starts :
    ((took .startSlotFree (running.setSiren 2 { Siren.reset with st := .startWait none, wanted := some 1 })).siren 2).st =
      .sounding 1 0 true 10500 none false := by decide +kernel
theorem test_lastStartExpiry_forgets :
    (took .lastStartExpiry { running with srs := { running.srs with lastStart := some 8000 } }).srs.lastStart = none := by decide +kernel

/-- Section 8.6: the end of step 0 of pattern 1 enters its off step of 1500 ms; a next pattern 2 is entered at step 0. -/
theorem test_stepEnd_follows :
    ((took (.stepEnd 2) (running.setSiren 2 { Siren.reset with st := .sounding 1 0 true 10000 none false, wanted := some 1 })).siren 2).st =
      .sounding 1 1 false 11500 none false ∧
    ((took (.stepEnd 2) (running.setSiren 2 { Siren.reset with st := .sounding 1 0 true 10000 (some 2) false, wanted := some 2 })).siren 2).st =
      .sounding 2 0 true 11000 none false := by decide +kernel
theorem test_sirenTestEnd_passes :
    bodies (took (.sirenTestEnd 2) (running.setSiren 2 { Siren.reset with st := .test 1 0 true (some 10100) 10000 false })) =
      [.sirenState 2 .off none, .testResult (.siren 2) .pass] := by decide +kernel
theorem test_loadFault_stands : ((took (.loadFault 2 .openLoad) running).siren 2).fault = some .openLoad := by decide +kernel
theorem test_loadRecovery_ends :
    ((took (.loadRecovery 2) (running.setSiren 2 { Siren.reset with fault := some .openLoad, load := some .openLoad })).siren 2).fault = none := by
  decide +kernel
theorem test_holdTimerExpiry_raises_attn :
    (took .holdTimerExpiry { running with rpq := { running.rpq with
      queue := [{ time := 9900, urgent := false, body := .storeDone true }], holdTimer := .running 9900 10000 } }).rpq.attn = true := by decide +kernel

/-! ### Witnesses: for each obligation with hypotheses, states and operands that meet those of each clause -/

theorem witness_StepRunsFrontCommand : { running with pending := [.lineBreak, .stat 7 []] }.pending = .lineBreak :: [.stat 7 []] := rfl

/-- Clauses: a due event; nothing due and no store at its bound; a store exactly at its bound of 600 ms. -/
theorem witness_CommandsAndClockAnswerNextStates :
    (resting.pending = [] ∧ dueEvents resting = [.slotAdvance 1]) ∧
    (running.pending = [] ∧ dueEvents running = [] ∧ running.cfs.storeState = .none) ∧
    (let s := { running with cfs := { running.cfs with storeState := .running 9401 } };
      dueEvents s = [] ∧ reached s.time (Machine.after 9401 600) = false) ∧
    (let s := { running with cfs := { running.cfs with storeState := .running 9400 } };
      dueEvents s = [] ∧ reached s.time (Machine.after 9400 600) = true) := by decide +kernel

theorem witness_ResetsBeginTheStartUp :
    (let s := { running with lnk := { running.lnk with restartPending := true } };
      s.lnk.restartPending = true ∧ s.lnk.tx = none) ∧ running.lnk.restartPending = false ∧ (sending 10000 0 running).lnk.tx ≠ none := by
  decide +kernel

theorem plant_InRange : plant.InRange :=
  { trunks := by decide +kernel, branches := by decide +kernel, stations := by decide +kernel, valves := by decide +kernel
    supply := by decide +kernel, trips := by decide +kernel, zones := by decide +kernel, inputs := by decide +kernel
    doors := by decide +kernel, sirens := by decide +kernel, patterns := by decide +kernel, global := by decide +kernel }

/-- The part loading the plant's tables, which are in range, and a step it takes. -/
theorem witness_EntriesOk : EntriesOk booting ∧ ∃ t, step booting = .next t := ⟨⟨plant_InRange, plant_InRange⟩, _, rfl⟩

/-- The part loading the plant's tables meets the premise, with an enabled and a disabled trunk and door. -/
theorem witness_LoadCompletionTakesStartingValues : booting.cfs.mode = .start ∧ StartOk booting ∧ EntriesOk booting ∧
    (booting.trunkEntry 1).enabled = true ∧ (booting.trunkEntry 0).enabled = false ∧
    (booting.doorEntry 3).enabled = true ∧ (booting.doorEntry 0).enabled = false :=
  ⟨rfl,
   { afm := rfl, released := rfl, stations := by decide +kernel, tracks := rfl, sprays := rfl, trunks := by decide +kernel,
     zones := rfl, inputs := by decide +kernel, doors := rfl, sirens := by decide +kernel, lastStart := rfl, key := rfl,
     faults := ⟨rfl, rfl⟩, store := ⟨rfl, rfl⟩ },
   ⟨plant_InRange, plant_InRange⟩, by decide +kernel⟩

/-- HUNT with and without SYNC, LEN bytes 1, 2, 242 and 243, BODY short of its CRC by one byte and at it, with a
good, a bad and an uncatalogued frame; the deadline 21 ms after the last byte. -/
theorem witness_ReceiverTakesCharactersAndDeadlines :
    running.lnk.rx = .hunt ∧ (0xA4 : Byte) ≠ 0xA5 ∧ (receiving (.length 9990) running).lnk.rx = .length 9990 ∧
    (2 ≤ (2 : Byte).toNat ∧ (242 : Byte).toNat ≤ 242 ∧ (1 : Byte).toNat ≤ 1 ∧ 243 ≤ (243 : Byte).toNat) ∧
    (receiving (.body 3 [0x10, 7] 9990) running).lnk.rx = .body 3 [0x10, 7] 9990 ∧ ([0x10, 7] : List Byte).length < 3 ∧
    (receiving (.body 2 [0x01, 7] 9990) running).lnk.rx = .body (([] : List Byte).length + 2) [0x01, 7] 9990 ∧
    readKind 0x01 = some .id ∧ requestCommand .id 7 [] = some (.idRequest 7 []) ∧ readKind 0x99 = none ∧ (0 : Byte) ≠ frameCrc [0x01, 7] ∧
    (0 < (running.time - (9979 + 20)).toNat ∧ (running.time - (9979 + 20)).toNat < 2 ^ 31) := by decide +kernel

theorem witness_LinkEventsAndDiscardedFrames :
    (receiving (.length 9980) running).lnk.rx = .length 9980 ∧ (running.time - (9980 + 20)).toNat = 0 ∧
    ((1 : Byte).toNat ≤ 1 ∧ 243 ≤ (243 : Byte).toNat) ∧ (2 ≤ (2 : Byte).toNat ∧ (242 : Byte).toNat ≤ 242) ∧ running.lnk.rx = .hunt ∧
    (sending 10000 0 running).lnk.tx ≠ none ∧ (running.lnk.tx = none ∧ running.lnk.restartPending = false) ∧
    (restarting.lnk.tx = none ∧ restarting.lnk.restartPending = true) ∧ (0 : Byte) ≠ frameCrc [0x10, 7] ∧ (0x99 : Byte).toNat ∉ catalogueCodes ∧
    reached 72016 (72000 + BitVec.ofNat 32 ((182 + 6) * 10 * 1000 / 115200)) = true ∧
    reached 72015 (72000 + BitVec.ofNat 32 ((182 + 6) * 10 * 1000 / 115200)) = false := by decide +kernel

theorem witness_FrameByBytesIsItsCommand :
    running.lnk.rx = .hunt ∧ (List.replicate 240 (0 : Byte)).length ≤ 240 ∧ readKind 0x02 = some .stat ∧
    requestCommand .stat 7 [] = some (.stat 7 []) ∧ readKind 0x99 = none ∧ readKind ReqKind.twrite.code = some .twrite ∧
    requestCommand .twrite 7 [12, 0] = none ∧ running.lnk.tx = none ∧ running.lnk.restartPending = false ∧ (0 : Byte) ≠ frameCrc [0x02, 7] := by decide +kernel

theorem witness_FrameCheckIsTheBitwiseCrc :
    (receiving (.body 2 [0x02, 7] 9990) running).lnk.rx = .body ([0x02, 7] : List Byte).length [0x02, 7] 9990 ∧
    (receiving (.body 2 [0x02, 7] 9990) running).lnk.tx = none ∧
    (0 : Byte) ≠ crcOfBits ((byte ([0x02, 7] : List Byte).length :: [0x02, 7]).flatMap bitsOf) ∧
    crc8 ([2] ++ 5 :: [7]) = crc8 ([2] ++ 5 :: [7]) := by decide +kernel

/-- One request at each gate: sending, a RESTART due, a bad length, a mode that does not serve it, and its owner. -/
theorem witness_RequestsAreGatedBeforeTheirOwner :
    requestCommand .zack 7 [2] = some (.zack 7 [2]) ∧ (sending 10000 0 running).lnk.tx ≠ none ∧
    (restarting.lnk.tx = none ∧ restarting.lnk.restartPending = true ∧ running.lnk.restartPending = false) ∧
    (running.lnk.tx = none ∧ ReqKind.zack.lengthOk [] = false) ∧
    (ReqKind.zack.lengthOk [2] = true ∧ booting.cfs.mode = .start ∧ booting.lnk.tx = none) ∧ running.cfs.mode ≠ .start := by
  decide +kernel

theorem witness_IdentityInputAndTrackReplies :
    Reaches .trks [31] (tracked 10500) ∧ Reaches .trks [32] (tracked 10500) ∧ (tracked 10500).cfs.mode ≠ .start ∧
    (31 < (32 : Byte).toNat ∧ (31 : Byte).toNat ≤ 31) ∧ (tracked 10500).trc.tracks[0 + 0]? = some (spark 10500) :=
  ⟨⟨rfl, rfl, rfl, rfl⟩, ⟨rfl, rfl, rfl, rfl⟩, by decide +kernel, by decide, rfl⟩

theorem witness_StatusReplyLayout : running.lnk.tx = none ∧ running.lnk.restartPending = false := ⟨rfl, rfl⟩

/-- The last entry of every table, and the first index beyond it. -/
theorem witness_TableReadReplies :
    Reaches .tread [5, 23] running ∧ (23 : Byte).toNat = (3 : Fin 4).val * 6 + (5 : Fin 6).val ∧ (3 : Byte).toNat = (3 : Fin 4).val ∧
    (15 : Byte).toNat = (15 : Fin 16).val ∧ (11 : Byte).toNat = (11 : Fin 12).val ∧ (31 : Byte).toNat = (31 : Fin 32).val ∧
    (7 : Byte).toNat = (7 : Fin 8).val ∧ 11 < (12 : Byte).toNat ∧ [4, 16, 16, 12, 1, 24, 16, 32, 16, 8, 8, 1].getD (5 : Byte).toNat 0 ≤ (24 : Byte).toNat :=
  ⟨⟨rfl, rfl, rfl, rfl⟩, by decide⟩

/-- A request sampled on V2 with its sample valid. -/
def sampled : State :=
  let r : TaggedRequest := { track := 17, trunk := 1, station := 3, valve := 2, detected := 9000, transit := 319, early := 271
                             openTime := 9191, lateStart := false, merged := false }
  let x : Sample := { request := r, grantTime := 9191, closeTime := 9791, late := false, missed := false, outcome := .extinguished, captured := 9791 }
  { running with spa := { running.spa with sampler := .valid x } }

theorem witness_SampleReadAndRearm :
    Reaches .smpl [1] sampled ∧ 1 < (2 : Byte).toNat ∧ (1 : Byte).toNat ≤ 1 ∧ running.spa.sampler = .armed ∧ ∃ x, sampled.spa.sampler = .valid x :=
  ⟨⟨rfl, rfl, rfl, rfl⟩, by decide, by decide, rfl, _, rfl⟩

/-- Stations 3 and 5 are enabled; the position 3 is followed by 5, and 5 by 3. -/
theorem witness_ViewRotation :
    running.lnk.tx = none ∧ running.lnk.restartPending = false ∧ running.cfs.mode ≠ .start ∧ ((0x0028 : BitVec 16).getLsbD 3 = true ∧ (running.stationEntry 3).enabled = true) ∧
    ((0x0028 : BitVec 16).getLsbD 5 = true ∧ (running.stationEntry 5).enabled = true) ∧
    (∀ j : Fin 16, j < 3 → (0x0028 : BitVec 16).getLsbD j.val = false) ∧ (∀ j : Fin 16, 3 < j → j < 5 → (0x0028 : BitVec 16).getLsbD j.val = false) ∧
    (∀ j : Fin 16, 5 < j → (0x0028 : BitVec 16).getLsbD j.val = false) ∧ (running.stationEntry 0).enabled = false := by decide +kernel

theorem witness_CounterSnapshotAndClear :
    Reaches .cntr [2, 3, 1] running ∧ (3 : Byte).toNat = (3 : Fin 4).val ∧ (15 : Byte).toNat = (15 : Fin 16).val ∧ (11 : Byte).toNat = (11 : Fin 12).val ∧
    2 < (3 : Byte).toNat ∧ [16, 12, 4].getD (1 : Byte).toNat 0 ≤ (12 : Byte).toNat ∧ 1 < (2 : Byte).toNat :=
  ⟨⟨rfl, rfl, rfl, rfl⟩, by decide⟩

/-- A queue of `n` ordinary records whose hold timer runs to 10,000. -/
def queued (n : Nat) (urgent : Bool) : State :=
  { running with rpq := { running.rpq with
    queue := List.replicate n { time := 9900, urgent := urgent, body := .storeDone true }, holdTimer := .running 9900 10000 } }

theorem witness_FetchedRecordsAndHoldTimer :
    Reaches .fetch [] (queued 64 false) ∧ (queued 1 false).rpq.holdTimer = .running 9900 10000 ∧ reached (queued 1 false).time 10000 = true ∧
    reached 9999 10000 = false :=
  ⟨⟨rfl, rfl, rfl, rfl⟩, by decide +kernel⟩

/-- A queue with room for one, a full one with an ordinary record, and a full one of urgent records. -/
theorem witness_AppendedRecordsQueueAndOverflow :
    (queued 63 false).rpq.queue.length < 64 ∧ 64 ≤ (queued 64 false).rpq.queue.length ∧
    (queued 64 false).rpq.queue = [] ++ { time := 9900, urgent := false, body := .storeDone true } :: (queued 63 false).rpq.queue ∧
    64 ≤ (queued 64 true).rpq.queue.length ∧ (∀ q ∈ (queued 64 true).rpq.queue, q.urgent = true) ∧ running.rpq.queue = [] := by decide +kernel

/-- An enabled zone with a latched call point back at its quiet level, a disabled zone, an index beyond the table,
and "all". -/
theorem witness_AcknowledgedZones :
    let s := running.setInput 0 { Input.reset with latch := true, active := true }
    Reaches .zack [2] s ∧ Reaches .zack [16] s ∧ Reaches .zack [255] s ∧ (2 : Byte).toNat = (2 : Fin 16).val ∧ (s.zoneEntry 2).enabled = true ∧
    (s.zoneEntry 1).enabled = false ∧ (16 ≤ (16 : Byte).toNat ∧ (16 : Byte) ≠ 255) ∧
    ((s.inputEntry 0).role = .call 2 ∧ (s.inputEntry 0).sense.isEdge = true ∧ (s.input 0).latch = true ∧
      (s.input 0).debounced ≠ (s.inputEntry 0).sense.operated) ∧ (s.inputEntry 1).role = .fan 1 :=
  ⟨⟨rfl, rfl, rfl, rfl⟩, ⟨rfl, rfl, rfl, rfl⟩, ⟨rfl, rfl, rfl, rfl⟩, by decide +kernel⟩

/-- Zone 2 alarmed and silenced, zone 4 at NORMAL, zone 1 disabled. -/
theorem witness_HushedAndSoundedZones :
    let s := running.setZone 2 { Zone.reset with latched := .fire, silenced := true, hush := .fire }
    Reaches .hush [2] s ∧ Reaches .sound [255] s ∧ (s.zoneEntry 2).enabled = true ∧ (s.zone 2).latched ≠ .normal ∧ (s.zone 2).silenced = true ∧
    ((s.zoneEntry 4).enabled = true ∧ (s.zone 4).latched = .normal) ∧ (s.zoneEntry 1).enabled = false ∧
    ((s.sirenEntry 2).zones.getLsbD 2 = true ∧ (s.sirenEntry 2).enabled = true ∧ (s.sirenEntry 5).zones.getLsbD 2 = false) :=
  ⟨⟨rfl, rfl, rfl, rfl⟩, ⟨rfl, rfl, rfl, rfl⟩, by decide +kernel⟩

theorem witness_ManualCauseOfAZone :
    Reaches .zset [2, 3] running ∧ (2 : Byte).toNat = (2 : Fin 16).val ∧ (3 : Byte).toNat = Level.fire.rank ∧ (running.zoneEntry 2).enabled = true ∧
    16 ≤ (16 : Byte).toNat ∧ 3 < (4 : Byte).toNat ∧ (running.zoneEntry 1).enabled = false :=
  ⟨⟨rfl, rfl, rfl, rfl⟩, by decide +kernel⟩

theorem witness_SelectedLevelAndWantedPattern :
    (running.sirenEntry 2).zones.getLsbD 2 = true ∧ (running.zone 2).silenced = false ∧
    wantedPattern (running.setZone 2 { Zone.reset with latched := .fire }) 2 = some 2 := by decide +kernel

/-! The trunk in each state, with its one counting trip entry false, and with the entry made true for each action. -/

/-- The running part with trip slot 0 of trunk 1 always true, for an action. -/
def tripped (a : Machine.Action) : State :=
  running.setTables { plant with trip := plant.trip.set 6 { kind := .tracksAtLeast, threshold := 0, action := a } }

theorem witness_TrunkActsOnItsTarget :
    (∀ (a : Fin 4) (j : Fin 4) (slot : Fin 6), ((tripped ([.watch, .divert, .haltClear, .haltNow].getD a.val .watch)).tripEntry j slot).kind.readsLevel = false) ∧
    (∀ (j : Fin 4) (slot : Fin 6), (running.tripEntry j slot).kind.readsLevel = false) ∧ target running 1 = none ∧
    target (tripped .watch) 1 = some (.watch, 0) ∧ target (tripped .divert) 1 = some (.divert, 0) ∧
    target (tripped .haltClear) 1 = some (.haltClear, 0) ∧ target (tripped .haltNow) 1 = some (.haltNow, 0) ∧
    (running.trunk 1).prot = .run ∧ (resting.trunk 1).prot = .halt .manual ∧
    ((running.setTrunk 1 { running.trunk 1 with prot := .divert }).trunk 1).prot = .divert := by decide +kernel

/-- The running part with slot 0 of trunk 1 given a trip entry. -/
def watching (e : TripEntry) : State := running.setTables { plant with trip := plant.trip.set 6 e }

/-- True entries of the three kinds that do not count; the first keeps the premise on levels. The first trunk a target
moves, with those before it at rest; and a part in which none moves. -/
theorem witness_TrunkActsOnItsTarget_kinds :
    let slow := watching { kind := .velocityBelow, threshold := 2351, action := .haltNow }
    let filter := watching { kind := .filterZoneAtLeast, threshold := 0, action := .watch }
    let hall := watching { kind := .hallZoneAtLeast, threshold := 0, action := .haltClear }
    target slow 1 = some (.haltNow, 0) ∧ target filter 1 = some (.watch, 0) ∧ target hall 1 = some (.haltClear, 0) ∧
    (∀ (j : Fin 4) (slot : Fin 6), (slow.tripEntry j slot).kind.readsLevel = false) ∧
    (∀ j : Fin 4, j < 1 → actOn j slow = slow) ∧ ((actOn 1 slow).trunk 1).prot ≠ (slow.trunk 1).prot ∧
    (∀ j : Fin 4, j < 1 → actOn j filter = filter) ∧ ((actOn 1 filter).trunk 1).prot ≠ (filter.trunk 1).prot ∧
    (∀ j : Fin 4, actOn j running = running) := by decide +kernel

/-- A halted trunk, one at its run condition, one that halts, a running one, CONFIGURE and a disabled trunk. -/
theorem witness_ResumedTrunk :
    Reaches .trun [1] resting ∧ Reaches .trun [1] configuring ∧ (1 : Byte).toNat = (1 : Fin 4).val ∧ (resting.trunkEntry 1).enabled = true ∧
    (resting.trunk 1).prot = .halt .manual ∧ target resting 1 = none ∧ (∀ slot : Fin 6, (resting.tripEntry 1 slot).kind.countsOnly = true) ∧
    (∀ slot : Fin 6, (resting.tripEntry 1 slot).kind.readsLevel = false) ∧ (resting.trunk 1).fanIn = false ∧
    (let s := (running.setTrunk 1 { running.trunk 1 with prot := .halt .manual });
      (s.trunk 1).fanIn = true ∧ (s.trunkEntry 1).vRun ≤ (s.air 1).vf ∧ target s 1 = none) ∧
    target (tripped .haltClear) 1 = some (.haltClear, 0) ∧ (running.trunk 1).prot = .run ∧ (resting.trunkEntry 0).enabled = false ∧
    4 ≤ (4 : Byte).toNat :=
  ⟨⟨rfl, rfl, rfl, rfl⟩, ⟨rfl, rfl, rfl, rfl⟩, by decide +kernel⟩

theorem witness_HaltedByRequest :
    Reaches .thalt [1, 1] running ∧ Reaches .thalt [1, 0] running ∧ (1 : Byte).toNat = (1 : Fin 4).val ∧ (running.trunkEntry 1).enabled = true ∧
    (running.trunk 1).prot = .run ∧ (resting.trunk 1).prot = .halt .manual ∧ (∀ slot : Fin 6, (running.tripEntry 1 slot).kind.readsLevel = false) ∧
    target running 1 = none ∧ 1 < (2 : Byte).toNat ∧ (running.trunkEntry 0).enabled = false ∧
    ((running.setTrunk 1 { running.trunk 1 with prot := .starting }).trunk 1).prot = .starting ∧
    ((running.setTrunk 1 { running.trunk 1 with prot := .stopping .manual }).trunk 1).prot = .stopping .manual :=
  ⟨⟨rfl, rfl, rfl, rfl⟩, ⟨rfl, rfl, rfl, rfl⟩, by decide +kernel⟩

/-- An advance exactly due in HALT, one 1 ms away, and a trunk with none. -/
theorem witness_RingsAdvance :
    (resting.trunk 1).nextAdvance = some 10000 ∧ reached resting.time 10000 = true ∧ (resting.trunk 1).prot = .halt .manual ∧
    (running.trunk 1).nextAdvance = some 10001 ∧ reached running.time 10001 = false ∧ (running.trunk 0).nextAdvance = none := by decide +kernel

theorem witness_TrunkTimersEnd :
    let at_ (x : Trunk) : State := running.setTrunk 1 x
    let x := running.trunk 1
    (reached running.time 10000 = true ∧ reached running.time 10001 = false) ∧
    ((at_ { x with prot := .divert, gateTimer := some 10000 }).trunk 1).gateTimer = some 10000 ∧
    ((at_ { x with prot := .starting, startTimer := some 10000 }).trunk 1).startTimer = some 10000 ∧
    (((at_ { x with prot := .stopping (.trip 0), clearDelay := some 10000 }).trunk 1).clearDelay = some 10000 ∧
      ((at_ { x with prot := .stopping (.trip 0), clearDelay := some 10000 }).trunk 1).prot = .stopping (.trip 0)) ∧
    (((at_ { x with prot := .divert, divertHold := some 10000 }).trunk 1).divertHold = some 10000 ∧
      target (at_ { x with prot := .divert, divertHold := some 10000 }) 1 = none) ∧
    target ((tripped .watch).setTrunk 1 { x with prot := .divert, divertHold := some 10000 }) 1 = some (.watch, 0) ∧
    (∀ slot : Fin 6, (running.tripEntry 1 slot).kind.countsOnly = true) ∧
    (let s := (watching { kind := .velocityBelow, threshold := 2351, action := .watch }).setTrunk 1 { x with prot := .divert, divertHold := some 10000 };
      (∀ slot : Fin 6, (s.tripEntry 1 slot).kind.readsLevel = false) ∧ (s.trunk 1).prot = .divert ∧ target s 1 = some (.watch, 0)) ∧
    (x.gateTimer = none ∧ x.startTimer = none ∧ x.clearDelay = none ∧ x.divertHold = none) := by decide +kernel

theorem witness_FanStopTimeoutReleasesDoors :
    let s := (running.setTrunk 1 { running.trunk 1 with fanStop := some 10000 }).setDoor 3 { st := .waitFan .level, holder := true, contact := false }
    (s.trunk 1).fanStop = some 10000 ∧ reached s.time 10000 = true ∧ reached s.time 10001 = false ∧ (running.trunk 1).fanStop = none ∧
    (s.doorEntry 3).interlock = some 1 ∧ (s.door 3).st.phase = .waitFan := by decide +kernel

/-- A due delay with the fan running and with the fan quiet, a due close timer, and doors with neither. -/
theorem witness_DoorTimers :
    let d : Door := { st := .delayed 0 10000, holder := true, contact := false }
    let r : Door := { st := .released 0 10000, holder := false, contact := false }
    ((running.setDoor 3 d).door 3).st = .delayed 0 10000 ∧ ((running.setDoor 3 r).door 3).st = .released 0 10000 ∧
    (reached running.time 10000 = true ∧ reached running.time 10001 = false) ∧
    ((running.doorEntry 3).interlock = some 1 ∧ (running.trunkEntry 1).enabled = true ∧ (running.trunk 1).fanQuiet = false) ∧
    (resting.trunk 1).fanQuiet = true ∧ (running.doorEntry 4).interlock = none ∧ (running.door 3).st = .held := by decide +kernel

/-- Door 3 in each state with its level trigger clear, with it set, and a disabled door. -/
theorem witness_DoorRequests :
    let at_ (st : DoorState) (c : Bool) : State := running.setDoor 3 { st := st, holder := false, contact := c }
    Reaches .dhold [3] (at_ .closed true) ∧ Reaches .dshut [3] (at_ .ready true) ∧ (3 : Byte).toNat = (3 : Fin 16).val ∧
    (running.doorEntry 3).enabled = true ∧ (running.doorEntry 0).enabled = false ∧ levelTrigger running 3 = false ∧
    levelTrigger (running.setZone 2 { Zone.reset with latched := .alert }) 3 = true ∧
    (((at_ .closed true).door 3).contact = true ∧ ((at_ .closed false).door 3).contact = false ∧ ((at_ .blocked false).door 3).st = .blocked ∧
      ((at_ (.released 0 10000) false).door 3).st = .released 0 10000 ∧ ((at_ .ready true).door 3).st = .ready ∧
      ((at_ (.waitFan .level) false).door 3).st = .waitFan .level) ∧ (running.door 3).st = .held ∧ (16 ≤ (16 : Byte).toNat ∧ (16 : Byte) ≠ 255) :=
  ⟨⟨rfl, rfl, rfl, rfl⟩, ⟨rfl, rfl, rfl, rfl⟩, by decide +kernel⟩

theorem witness_DoorRequestsForAll :
    Reaches .dhold [255] running ∧ Reaches .dshut [255] running ∧ (running.doorEntry 3).enabled = true ∧ (running.door 3).st = .held ∧
    ((running.setDoor 3 { st := .blocked, holder := false, contact := false }).door 3).st = .blocked ∧ levelTrigger running 3 = false :=
  ⟨⟨rfl, rfl, rfl, rfl⟩, ⟨rfl, rfl, rfl, rfl⟩, by decide +kernel⟩

/-- A scanning station no track awaits, with and without a run; S5 awaited; a test exactly run out and 1 ms short; and
the trunk of the station in RUN, in HALT, and scanning not released. -/
theorem witness_HeadTestsBeginAndRunOut :
    Reaches .htest [3] running ∧ (3 : Byte).toNat = (3 : Fin 16).val ∧ (running.stationEntry 3).enabled = true ∧ (running.stationEntry 0).enabled = false ∧
    (running.station 3).scan = .cont ∧ (running.station 3).run = none ∧ (running.station 3).standing = false ∧ running.trc.tracks = [] ∧
    ((tracked 10500).trc.tracks = [spark 10500] ∧ (spark 10500).next = some { station := 5, early := 9415, late := 10500 }) ∧
    ((running.setStation 3 { Station.reset with scan := .cont, run := some { detected := 9990, peak := 1420, track := some 17 } }).station 3).run =
      some { detected := 9990, peak := 1420, track := some 17 } ∧
    ((running.setStation 3 { Station.reset with scan := .test 9800 10000 }).station 3).scan = .test 9800 10000 ∧
    (reached running.time 10000 = true ∧ reached running.time 10001 = false) ∧
    (running.dfe.released = true ∧ booting.dfe.released = false) ∧ ((running.trunk 1).prot = .run ∧ (resting.trunk 1).prot = .halt .manual) :=
  ⟨⟨rfl, rfl, rfl, rfl⟩, by decide +kernel⟩

/-- Durations 99, 100, 10000 and 10001; a resting trunk with room, with C reached, and a running trunk. -/
theorem witness_TestSpraysBeginAndEnd :
    Reaches .vtest [2, 100, 0] resting ∧ (2 : Byte).toNat = (2 : Fin 12).val ∧ (resting.valveEntry 2).enabled = true ∧ (resting.valveEntry 0).enabled = false ∧
    ((100 : Byte).toNat + 256 * (0 : Byte).toNat = 100 ∧ (0x10 : Byte).toNat + 256 * (0x27 : Byte).toNat = 10000 ∧
      (99 : Byte).toNat + 256 * (0 : Byte).toNat < 100 ∧ 10000 < (0x11 : Byte).toNat + 256 * (0x27 : Byte).toNat) ∧
    ((resting.trunkEntry (resting.valveEntry 2).pos.trunk).enabled = true ∧ (resting.trunk (resting.valveEntry 2).pos.trunk).prot = .halt .manual) ∧
    ((resting.valve 2).st = .idle ∧ resting.spa.units + (resting.valveEntry 2).demand ≤ resting.supplyEntry.capacity ∧
      resting.spa.nonFilter + (resting.valveEntry 2).demand ≤ resting.supplyEntry.capacity - resting.supplyEntry.reserve) ∧
    (running.trunk 1).prot = .run ∧ ¬ (6 + (resting.valveEntry 2).demand ≤ resting.supplyEntry.capacity) ∧
    ((resting.setValve 2 { st := .test 10000 true, output := true }).valve 2).st = .test 10000 true ∧
    (reached resting.time 10000 = true ∧ reached resting.time 10001 = false) :=
  ⟨⟨rfl, rfl, rfl, rfl⟩, by decide +kernel⟩

/-- Durations 999, 1000, 60000 and 60001; a free slot at the gap's end and 1 ms before it; a wanted siren; a pending
and a running test. -/
theorem witness_SirenTestsBeginAndEnd :
    Reaches .stest [2, 1, 0xE8, 3] running ∧ ((2 : Byte).toNat = (2 : Fin 8).val ∧ (1 : Byte).toNat = (1 : Fin 8).val) ∧
    ((0xE8 : Byte).toNat + 256 * (3 : Byte).toNat = 1000 ∧ (0x60 : Byte).toNat + 256 * (0xEA : Byte).toNat = 60000 ∧
      (0xE7 : Byte).toNat + 256 * (3 : Byte).toNat < 1000 ∧ 60000 < (0x61 : Byte).toNat + 256 * (0xEA : Byte).toNat) ∧
    (running.sirenEntry 2).enabled = true ∧ 0 < (running.patternEntry 1).count ∧ (running.patternEntry 0).count = 0 ∧ (running.siren 2).wanted = none ∧
    (running.siren 2).st = .off ∧ running.srs.lastStart = none ∧ (∀ j : Fin 8, (running.siren j).st.phase ≠ .startWait) ∧
    (reached 10000 (Machine.after 9500 running.globalEntry.startGap) = true ∧ reached 10000 (Machine.after 9501 running.globalEntry.startGap) = false) ∧
    ((running.setSiren 2 { Siren.reset with st := .test 1 0 true (some 10100) 10000 false }).siren 2).st = .test 1 0 true (some 10100) 10000 false ∧
    ((running.setSiren 2 { Siren.reset with wanted := some 1 }).siren 2).wanted ≠ none :=
  ⟨⟨rfl, rfl, rfl, rfl⟩, by decide +kernel⟩

theorem witness_ConfigureEntered :
    let s := { running with cfs := { running.cfs with key := true } }
    Reaches .cfgin [] s ∧ s.cfs.key = true ∧ (∀ z, (s.zone z).latched = .normal) ∧ s.trc.tracks = [] ∧ (∀ v, (s.valve v).st = .idle) ∧
    running.cfs.key = false ∧ (s.trunkEntry 1).enabled = true ∧ (s.trunk 1).prot = .run ∧ (resting.trunk 1).prot = .halt .manual :=
  ⟨⟨rfl, rfl, rfl, rfl⟩, by decide +kernel⟩

/-- The plant's tables pass every check; with the door's zone disabled one fails. Scanning is released, or not. -/
theorem witness_ConfigureLeft :
    Reaches .cfgout [] configuring ∧ configuring.dfe.released = true ∧
    ({ configuring with dfe := { configuring.dfe with released := false } }).dfe.released = false ∧
    ((allChecks configuring).all (fun c => c.passes) = true) ∧
    ((allChecks (configuring.setTables { plant with zone := plant.zone.set 2 { kind := .hall, enabled := false } })).any (fun c => !c.passes) = true) :=
  ⟨⟨rfl, rfl, rfl, rfl⟩, by decide +kernel⟩

/-- A write in CONFIGURE to the last index and beyond it, with a good and a bad field, and the two grounds of BUSY. -/
theorem witness_EveryTableTakesItsEntry :
    Reaches .twrite (0 :: 3 :: trunkBytes 1) configuring ∧ (3 : Byte).toNat = (3 : Fin 4).val ∧ 4 ≤ (4 : Byte).toNat ∧
    (TrunkEntry.decode (trunkBytes 1)).isSome = true ∧ TrunkEntry.decode (trunkBytes 2) = none ∧ configuring.cfs.storeState = .none ∧
    configuring.trc.tracks = [] ∧ (∀ v, (configuring.valve v).st = .idle) ∧ (tracked 10500).trc.tracks ≠ [] ∧
    ({ configuring.cfs with storeState := .running 9500 }).storeState = .running 9500 :=
  ⟨⟨rfl, rfl, rfl, rfl⟩, by decide +kernel⟩

theorem witness_OwnersActOnTakenEntries :
    ((plant.trunk[(2 : Fin 4)]).enabled ≠ (running.trunkEntry 1).enabled) ∧ (plant.station[(0 : Fin 16)]).enabled = false ∧
    ((running.station 3).standing = false) ∧ ((running.zoneEntry 2).enabled = true ∧ (plant.zone[(1 : Fin 16)]).enabled = false) ∧
    ((running.doorEntry 3).enabled = true ∧ (plant.door[(0 : Fin 16)]).enabled = false) ∧
    ((running.sirenEntry 2).enabled = true ∧ (plant.siren[(0 : Fin 8)]).enabled = false) := by decide +kernel

theorem witness_StoreAndRestartRequests :
    Reaches .store [] configuring ∧ Reaches .rstrt [] configuring ∧ configuring.cfs.storeLock = false ∧ configuring.cfs.storeState = .none ∧
    (let s := { configuring with cfs := { configuring.cfs with storeState := .running 9500, storeLock := true } };
      s.cfs.storeState = .running 9500 ∧ s.cfs.storeLock = true) :=
  ⟨⟨rfl, rfl, rfl, rfl⟩, ⟨rfl, rfl, rfl, rfl⟩, by decide +kernel⟩

/-- A taken entry of each table. -/
theorem witness_TakenEntriesReadBackAsWritten :
    (TrunkEntry.decode (trunkBytes 1)).isSome = true ∧ (BranchEntry.decode BranchEntry.default.encode).isSome = true ∧
    (StationEntry.decode StationEntry.default.encode).isSome = true ∧ (ValveEntry.decode ValveEntry.default.encode).isSome = true ∧
    (SupplyEntry.decode SupplyEntry.default.encode).isSome = true ∧ (TripEntry.decode [5, 0xE8, 3, 3]).isSome = true ∧
    (ZoneEntry.decode [2, 1]).isSome = true ∧ (InputEntry.decode [7, 0xFF, 1, 0x32, 0]).isSome = true ∧
    (DoorEntry.decode [2, 0xFF, 3, 0, 0xFF, 10, 0]).isSome = true ∧ (SirenEntry.decode [4, 2, 0xFF, 1, 2, 0xFF, 0]).isSome = true ∧
    (PatternEntry.decode PatternEntry.default.encode).isSome = true ∧ (GlobalEntry.decode GlobalEntry.default.encode).isSome = true := by decide +kernel

/-- An enabled trunk whose readings move it, hold it, and stall it; a hold exactly due; a disabled trunk, and START. -/
theorem witness_AirflowReadings :
    (running.cfs.mode ≠ .start ∧ (running.trunkEntry 1).enabled = true) ∧ (running.trunkEntry 0).enabled = false ∧ booting.cfs.mode = .start ∧
    (running.air 1).stage = .clear ∧ ((running.air 1).stalled = false ∧ (resting.air 1).stalled = true) ∧
    (((2350 : Int) + (((0 : Nat) : Int) - 2350 + 4) / 8).toNat = 2056 ∧ ((2350 : Int) + (((2353 : Nat) : Int) - 2350 + 4) / 8).toNat = 2350) ∧
    (let s := running.setAir 1 { TrunkAir.reset with vf := 2350, stalled := false, stage := .hold, holdExpiry := some 10000 };
      (s.air 1).stage ≠ .clear ∧ (s.air 1).holdExpiry = some 10000 ∧ reached s.time 10000 = true ∧ reached s.time 10001 = false) ∧
    (let s := watching { kind := .velocityBelow, threshold := 2057, action := .divert };
      (∀ (j : Fin 4) (slot : Fin 6), (s.tripEntry j slot).kind.readsLevel = false) ∧ target s 1 = none ∧
      target (runTested 1 (s.setAir 1 { s.air 1 with vf := 2056 })) 1 = some (.divert, 0)) ∧
    (let s := (running.setAir 1 { TrunkAir.reset with vf := 800, stalled := false }).setValve 2
        { st := .spraying (sch 9000 10600) 9000 false .branch, output := true };
      (s.valveEntry 2).pos.trunk = 1 ∧ (s.valve 2).st = .spraying (sch 9000 10600) 9000 false .branch ∧
      ((800 : Int) + (((0 : Nat) : Int) - 800 + 4) / 8).toNat < (s.trunkEntry 1).vStall) := by decide +kernel

/-- Samples at the threshold and below it, with and without a run, at the end level and below it; a window 19 ms
old and 20 ms old; a test; a track that awaits S5, and none. -/
theorem witness_DetectorSamples :
    ((running.station 3).scan = .cont ∧ (running.station 3).run = none) ∧ (running.stationEntry 3).threshold ≤ (1000 : BitVec 12).toNat ∧
    (999 : BitVec 12).toNat < (running.stationEntry 3).threshold ∧
    ((running.stationEntry 3).threshold - (running.stationEntry 3).hysteresis ≤ (800 : BitVec 12).toNat ∧
      (799 : BitVec 12).toNat < (running.stationEntry 3).threshold - (running.stationEntry 3).hysteresis) ∧
    ((running.time - 9981).toNat < 20 ∧ ¬ (running.time - 9980).toNat < 20) ∧
    (later running.time 9800 = true ∧ later running.time 10000 = false) ∧
    ((799 : BitVec 12).toNat < (running.stationEntry 3).testThreshold ∧ (running.stationEntry 3).testThreshold ≤ (800 : BitVec 12).toNat) ∧
    ((spark 10000).next = some { station := 5, early := 9415, late := 10000 } ∧ later 9415 running.time = false ∧ later running.time 10000 = false) ∧
    (running.station 0).scan = .off ∧ running.trc.tracks = [] := by decide +kernel

/-- The running part, and the one with a track, meet the premise on the track table. -/
theorem witness_DetectorSamples_tracks : TracksOk running ∧ TracksOk (tracked 10000) := by
  refine ⟨⟨by decide, by decide, ?_, ?_⟩, ⟨by decide +kernel, by decide +kernel, ?_, ?_⟩⟩
  · intro k h; exact absurd h List.not_mem_nil
  · intro k h; exact absurd h List.not_mem_nil
  · intro k h
    obtain rfl : k = spark 10000 := List.mem_singleton.mp h
    decide
  · intro k h e he
    obtain rfl : k = spark 10000 := List.mem_singleton.mp h
    obtain rfl : e = { station := 5, early := 9415, late := 10000 } := (Option.some.inj he).symm
    exact ⟨by decide +kernel, by decide +kernel, Or.inr ⟨by decide +kernel, 2, by decide +kernel, by decide +kernel⟩⟩

theorem witness_DutyWindowsAndStandingLights :
    let r : Machine.Run := { detected := 8000, peak := 1420, track := some 17 }
    (reached resting.time 10000 = true ∧ reached resting.time 10001 = false) ∧
    (reached resting.time (9980 + 20) = true ∧ reached resting.time (9981 + 20) = false) ∧
    ((resting.setStation 3 { Station.reset with scan := .duty 9000 false 10000 }).station 3).scan = .duty 9000 false 10000 ∧
    (let s := resting.setStation 3 { Station.reset with scan := .duty 9980 true 10980, run := some r };
      (s.station 3).scan = .duty 9980 true 10980 ∧ (s.station 3).run = some r ∧ (s.station 3).standing = false ∧
      reached s.time (r.detected + BitVec.ofNat 32 (s.stationEntry 3).standingTime) = true) ∧
    reached (9999 : Time) (r.detected + BitVec.ofNat 32 (resting.stationEntry 3).standingTime) = false ∧
    (resting.station 3).run = none ∧ (resting.zoneEntry (stationZone resting 3)).enabled = true := by decide +kernel

theorem witness_LoopSupervision :
    (running.station 3).scan = .cont ∧ (running.station 0).scan = .off ∧
    ((running.setStation 3 { Station.reset with scan := .fault .openLoop }).station 3).scan = .fault .openLoop ∧
    ((running.setStation 3 { Station.reset with scan := .test 9900 10100 }).station 3).scan = .test 9900 10100 := by decide +kernel

/-- A window 1 ms past its late bound, one at it, and an id no track bears; a tagged track. -/
theorem witness_WindowPassEndsTheTrack :
    (tracked 9999).trc.tracks.find? (fun q => decide (q.id = 17)) = some (spark 9999) ∧
    (spark 9999).next = some { station := 5, early := 9415, late := 9999 } ∧ later (10000 : Time) 9999 = true ∧ later (10000 : Time) 10000 = false ∧
    (tracked 9999).trc.tracks.find? (fun q => decide (q.id = 18)) = none ∧ ({ spark 9999 with tagged := true }).tagged = true ∧
    (spark 9999).tagged = false := by decide +kernel

theorem witness_SprayTimes :
    ((running.setValve 2 { st := .scheduled (sch 10000 10600), output := false }).valve 2).st = .scheduled (sch 10000 10600) ∧
    (reached running.time (sch 10000 10600).openTime = true ∧ reached running.time (sch 10001 10600).openTime = false) ∧
    (running.spa.units + (running.valveEntry 2).demand ≤ running.supplyEntry.capacity ∧
      running.spa.nonFilter + (running.valveEntry 2).demand ≤ running.supplyEntry.capacity - running.supplyEntry.reserve) ∧
    ¬ (5 + (running.valveEntry 2).demand ≤ running.supplyEntry.capacity) ∧
    ((running.setValve 2 { st := .waiting (sch 9000 9999) 9000, output := false }).valve 2).st = .waiting (sch 9000 9999) 9000 ∧
    (later running.time (sch 9000 9999).closeTime = true ∧ later running.time (sch 9000 10000).closeTime = false) ∧
    ((running.setValve 2 { st := .spraying (sch 9000 10000) 9000 false .branch, output := true }).valve 2).st =
      .spraying (sch 9000 10000) 9000 false .branch ∧ reached running.time (sch 9000 10000).closeTime = true ∧
    (∀ w, (running.valve w).st = .idle) := by decide +kernel

theorem witness_FlowTimers :
    let s := { running with spa := { running.spa with proveExpiry := some 10000, unexpExpiry := some 10000 } }
    s.spa.proveExpiry = some 10000 ∧ s.spa.unexpExpiry = some 10000 ∧ reached s.time 10000 = true ∧ reached s.time 10001 = false ∧
    s.spa.flow = false ∧ s.spa.supplyFault = false ∧ s.spa.unexpRaised = false ∧ running.spa.proveExpiry = none ∧ running.spa.unexpExpiry = none ∧
    ((s.trunkEntry 1).enabled = true ∧ (s.trunkEntry 1).filterZone = 4) := by decide +kernel

/-- A debounce exactly run out and 1 ms short, a debounce of 0, START, and inputs of each single role. -/
theorem witness_DebouncedInputs :
    (let s := running.setInput 0 { Input.reset with raw := true, differs := some 9980 };
      (s.input 0).differs = some 9980 ∧ reached s.time (9980 + BitVec.ofNat 32 (s.inputEntry 0).debounce) = true ∧
      ((s.inputEntry 0).sense.isEdge = true ∧ (s.input 0).raw = (s.inputEntry 0).sense.operated ∧ (s.input 0).active = false) ∧
      (s.inputEntry 0).role = .call 2 ∧ (s.zoneEntry 2).enabled = true) ∧
    reached running.time (9981 + BitVec.ofNat 32 (running.inputEntry 0).debounce) = false ∧ (running.inputEntry 3).debounce = 0 ∧
    0 < (running.inputEntry 0).debounce ∧ (running.input 0).differs = none ∧ (running.input 0).debounced = false ∧ running.cfs.mode ≠ .start ∧
    booting.cfs.mode = .start ∧ (running.inputEntry 1).role = .fan 1 ∧ (running.inputEntry 2).role = .key ∧ (running.inputEntry 3).role = .flow ∧
    (running.inputEntry 14).role = .door 3 ∧ (∀ j : Fin 32, j < 14 → (running.inputEntry j).role ≠ (running.inputEntry 14).role) := by decide +kernel

/-- Siren 2 waits alone under a free slot; one start is at the gap's end, one 1 ms short; a step exactly ended, with a
next pattern, a stop order and neither; a last start exactly 2000 ms old. -/
theorem witness_SirenStartsAndSteps :
    let s := running.setSiren 2 { Siren.reset with st := .startWait none, wanted := some 1 }
    (s.siren 2).st.phase = .startWait ∧ (s.siren 2).wanted = some 1 ∧ 0 < (s.patternEntry 1).count ∧ s.srs.lastStart = none ∧
    (∀ j : Fin 8, j ≠ 2 → (s.siren j).st.phase ≠ .startWait) ∧ 0 < s.globalEntry.startGap ∧ s.globalEntry.startGap ≤ 2000 ∧
    (reached s.time (9500 + BitVec.ofNat 32 s.globalEntry.startGap) = true ∧ reached s.time (9501 + BitVec.ofNat 32 s.globalEntry.startGap) = false) ∧
    (reached s.time (8000 + 2000) = true ∧ reached s.time (8001 + 2000) = false) ∧ (∀ j : Fin 8, (running.siren j).st.phase ≠ .startWait) ∧
    ((running.setSiren 2 { Siren.reset with st := .sounding 1 0 true 10000 (some 2) false }).siren 2).st = .sounding 1 0 true 10000 (some 2) false ∧
    ((running.setSiren 2 { Siren.reset with st := .sounding 1 1 false 10000 none true }).siren 2).st = .sounding 1 1 false 10000 none true ∧
    ((running.setSiren 2 { Siren.reset with st := .test 1 0 true (some 10000) 10500 false }).siren 2).st = .test 1 0 true (some 10000) 10500 false ∧
    (reached running.time 10000 = true ∧ reached running.time 10001 = false) ∧ (running.siren 2).st = .off := by decide +kernel

/-- Siren 5 waits with a pending test behind siren 2, which waits for its pattern, and alone; a start gap of 0. -/
theorem witness_SirenStartsAndSteps_tests :
    let pending : SirenState := .startWait (some { pattern := 1, duration := 1000 })
    let s := running.setSiren 5 { Siren.reset with st := pending }
    let both := (s.setSiren 2 { Siren.reset with st := .startWait none, wanted := some 1 }).setZone 2 { Zone.reset with latched := .fire }
    let gapless := both.setTables { plant with global := { plant.global with startGap := 0 } }
    ((s.siren 5).st = pending ∧ (s.siren 5).wanted = none ∧ (∀ j : Fin 8, j ≠ 5 → (s.siren j).st.phase ≠ .startWait)) ∧
    (queueLevel both 5 < queueLevel both 2 ∧ both.srs.lastStart = none) ∧
    (gapless.globalEntry.startGap = 0 ∧ (gapless.siren 2).st.phase = .startWait ∧ (gapless.siren 5).st.phase = .startWait ∧
      bodies (took .startSlotFree gapless) = [.sirenState 2 .sounding (some 1), .sirenState 5 .test (some 1)]) := by decide +kernel

theorem witness_SirenLoadSupervision :
    ((running.sirenEntry 2).enabled = true ∧ running.cfs.mode ≠ .start) ∧ (running.sirenEntry 0).enabled = false ∧ (running.siren 2).fault = none ∧
    ((running.setSiren 2 { Siren.reset with fault := some .openLoad }).siren 2).fault = some .openLoad := by decide +kernel

/-- Section 1.4's relation: V2 is downstream of S3, and S5 of V2. -/
theorem witness_DownstreamRelation :
    downstream running (running.valveEntry 2).pos (running.stationEntry 3).pos = true ∧
    downstream running (running.stationEntry 5).pos (running.valveEntry 2).pos = true := by decide +kernel

/-- Section 3.2's limits: the clamp at 4095 dm and 600 cm/s, and the widest tolerance. -/
theorem witness_TransitsWindowsSchedulesAndNextStations :
    (0 < 600 ∧ 60000 < 4095 * 10000 / 600) ∧ 75 * 10000 / 2350 ≤ 60000 ∧ 50 ≤ 50 ∧ transit 75 2350 = 319 ∧ earlyOffset 319 15 = 271 ∧
    lateOffset 319 15 = 367 ∧ transit 4095 600 = 60000 ∧ earlyOffset 60000 15 = 51000 ∧ lateOffset 60000 15 = 69000 ∧
    earlyOffset 319 50 = 159 ∧ lateOffset 319 50 = 479 := by decide

/-- A station on a moving trunk and on a stalled one, offsets within the tables' bounds, a station with a next one
and one without. -/
theorem witness_TransitsWindowsSchedulesAndNextStations_plant :
    (running.air (running.stationEntry 3).pos.trunk).stalled = false ∧ (resting.air (resting.stationEntry 3).pos.trunk).stalled = true ∧
    (running.trunkEntry (running.stationEntry 3).pos.trunk).tolerance ≤ 50 ∧ (running.valveEntry 2).minHold ≤ 10000 ∧
    (running.valveEntry 2).tail ≤ 2000 ∧ nextStation running 3 = some 5 ∧ nextStation running 5 = none := by decide +kernel

/-- A sample that makes a track with a next station and an idle valve to schedule; a track matched away from the
inlet, and one matched at it after an open spray. -/
theorem witness_DetectorSamples_matches :
    nextStation running 3 = some 5 ∧ requestedValve running 3 = some 2 ∧ (running.valve 2).st = .idle ∧
    later (spraySchedule running 3 2 running.time 18).openTime running.time = true ∧ isInlet running 3 = false ∧
    isInlet running 5 = false ∧ (spark 10000).outcome = .opened ∧
    (let x := running.cfs.tables
     let s := { running with cfs := { running.cfs with tables :=
       { x with station := x.station.set 5 { x.station[5] with inlet := true } } } }
     isInlet s 5 = true) := by decide +kernel

/-- Trips that read no zone level; the current slot of the new-track ring of trunk 1 below 255 and at it; a sighting at the inlet that
is a survivor and one that is not. -/
theorem witness_DetectorSamples_rings :
    (∀ (j : Fin 4) (slot : Fin 6), (running.tripEntry j slot).kind.readsLevel = false) ∧
    (running.stationEntry 3).pos.trunk = 1 ∧ (running.trunk 1).newRing[(running.trunk 1).slot] = 0 ∧
    (let s := running.setTrunk 1 { running.trunk 1 with newRing := Vector.replicate 8 255 };
      (s.trunk 1).newRing[(s.trunk 1).slot] = 255 ∧ s.trc.tracks = []) ∧
    ((spark 10000).outcome = .opened ∧ ({ spark 10000 with outcome := .missed }).outcome ≠ .opened ∧ (spark 10000).passes = 0) := by
  decide +kernel

/-- A STARTING trunk that meets the run condition, and one below v_run. -/
theorem witness_AirflowReadings_run :
    (let s := running.setTrunk 1 { running.trunk 1 with prot := .starting };
      (s.trunk 1).prot = .starting ∧ (s.trunk 1).fanIn = true ∧ (s.trunkEntry 1).vRun ≤ (s.air 1).vf) ∧
    ¬ (resting.trunkEntry 1).vRun ≤ (resting.air 1).vf := by decide +kernel

/-! Every invariant holds of the running part, and it takes a step. -/

theorem witness_EveryStepKeepsTheReportQueue : QueueOk running ∧ ∃ t, step running = .next t :=
  ⟨⟨by decide, by decide, by decide +kernel⟩, _, rfl⟩

theorem witness_EveryStepKeepsLevelsAndCauses : LevelsOk running ∧ CausesOk running ∧ ∃ t, step running = .next t :=
  ⟨⟨by decide +kernel, by decide +kernel⟩, ⟨by decide +kernel, by decide +kernel, fun h => absurd h (by decide +kernel)⟩, _, rfl⟩

theorem witness_EveryStepKeepsTheTrackTable : TracksOk (tracked 10000) ∧ ∃ t, step (tracked 10000) = .next t :=
  ⟨witness_DetectorSamples_tracks.2, _, rfl⟩

theorem witness_EveryStepKeepsTheSupply :
    let s := ({ running with spa := { running.spa with units := 2, nonFilter := 2 } }).setValve 2
      { st := .spraying (sch 9000 10600) 9000 false .branch, output := true }
    SupplyOk s ∧ ∃ t, step s = .next t :=
  ⟨⟨by decide +kernel, by decide +kernel, by decide +kernel, by decide +kernel⟩, _, rfl⟩

/-- A part with trunk 1 in RUN, the others in HALT, and siren 2 in an on step. -/
def driving : State :=
  let s := booting.setTrunk 1 { Trunk.reset with prot := .run, fanOut := true }
  let s := s.setSiren 2 { Siren.reset with st := .sounding 1 0 true 10500 none false, wanted := some 1, output := true }
  { s with tkc := { s.tkc with machineStop := s.tkc.machineStop.set 2 false } }

theorem driving_trunk (k : Fin 4) : TrunkOutputsOk driving k := by
  match k with
  | 0 => exact ⟨by decide +kernel, show (driving.trunk 0).gateOut = _ by decide +kernel⟩
  | 1 => exact ⟨by decide +kernel, show (driving.trunk 1).gateOut = false by decide +kernel⟩
  | 2 => exact ⟨by decide +kernel, show (driving.trunk 2).gateOut = _ by decide +kernel⟩
  | 3 => exact ⟨by decide +kernel, show (driving.trunk 3).gateOut = _ by decide +kernel⟩

theorem driving_disabled (k : Fin 4) (h : (driving.trunkEntry k).enabled = false) : ∃ c, (driving.trunk k).prot = .halt c := by
  match k with
  | 0 => exact ⟨.start, by decide +kernel⟩
  | 1 => exact absurd h (by decide +kernel)
  | 2 => exact ⟨.start, by decide +kernel⟩
  | 3 => exact ⟨.start, by decide +kernel⟩

theorem witness_EveryStepKeepsTheOutputs : OutputsOk driving ∧ SirensOk driving ∧ ∃ u, step driving = .next u :=
  ⟨⟨driving_trunk, by unfold MachineStopOk; decide +kernel, fun k h => ⟨driving_disabled k h, by revert k; decide +kernel⟩⟩,
    ⟨by decide +kernel, by decide +kernel⟩, _, rfl⟩

/-- The running part under a VELOCITY_BELOW entry that is not true. -/
def brisk : State := watching { kind := .velocityBelow, threshold := 2350, action := .haltNow }

/-- Every enabled trunk of that part has answered its target, which is none. -/
theorem brisk_TargetAnswered (k : Fin 4) : TargetAnswered brisk k := by
  have h : target brisk k = none := by revert k; decide +kernel
  intro _
  simp only [h]
  revert k
  decide +kernel

theorem witness_EveryStepKeepsTheOutputs_targets :
    CausesOk brisk ∧ (∀ k, TargetAnswered brisk k) ∧ (brisk.tripEntry 1 0).kind = .velocityBelow ∧
      ∃ t, step brisk = .next t ∧ ∀ k, LevelFreeTrips t k :=
  ⟨⟨by decide +kernel, by decide +kernel, fun h => absurd h (by decide +kernel)⟩, brisk_TargetAnswered, by decide +kernel, _, rfl,
    by unfold LevelFreeTrips; decide +kernel⟩

theorem witness_EveryStepKeepsStartAirAndHolders :
    StartHolds booting ∧ AirOk running ∧ HoldersOk booting ∧ ∃ t, step running = .next t :=
  ⟨fun _ => witness_LoadCompletionTakesStartingValues.2.1, ⟨by decide +kernel, by decide +kernel⟩,
    fun d => by
      have h : (booting.door d).holder = true ∧ (booting.door d).st = .held := by revert d; decide +kernel
      exact ⟨fun _ => Or.inl h.2, fun _ => h.1⟩, _, rfl⟩

/-! ### Further witnesses: the clauses of statements with many cases, at their boundaries -/

/-- The part in START over the tables `x`, with raw inputs and loop conditions. -/
def boots (raw : Fin 32 → Bool) (loop : Fin 16 → Option LoopFault) (x : Tables) : State :=
  let s := { booting with cfs := { booting.cfs with tables := x, copy := x } }
  { s with
    dfe := { s.dfe with stations := Vector.ofFn (fun i => { Station.reset with loop := loop i }) }
    tkc := { s.tkc with trunks := Vector.ofFn (fun k => { Trunk.reset with gateOut := (x.trunk[k]).gatePresent }) }
    fiu := Vector.ofFn (fun i => { Input.reset with raw := raw i }) }

theorem boots_StartOk (raw : Fin 32 → Bool) (loop : Fin 16 → Option LoopFault) (x : Tables) : StartOk (boots raw loop x) :=
  { afm := rfl, released := rfl, stations := fun i => by simp [boots, State.station], tracks := rfl, sprays := rfl
    trunks := fun k => by simp [boots, State.trunk, State.trunkEntry]
    zones := rfl, inputs := fun i => by simp [boots, State.input], doors := rfl
    sirens := (by decide +kernel : ∀ i, booting.siren i = { Siren.reset with load := (booting.siren i).load })
    lastStart := rfl, key := rfl, faults := ⟨rfl, rfl⟩, store := ⟨rfl, rfl⟩ }

theorem boots_EntriesOk (raw : Fin 32 → Bool) (loop : Fin 16 → Option LoopFault) : EntriesOk (boots raw loop plant) :=
  ⟨plant_InRange, plant_InRange⟩

/-- Door 3 with its contact open and closed, no zone alarmed; with its call point operated, closed, waiting for its
fan; door 4 without an interlock; S3 with a loop fault; a bad copy. -/
theorem witness_LoadCompletionTakesStartingValues_doors :
    let none_ : Fin 16 → Option LoopFault := fun _ => none
    let a := took .loadCompletion (boots (fun _ => false) none_ plant)
    let b := took .loadCompletion (boots (fun i => i = 14) none_ plant)
    let c := took .loadCompletion (boots (fun i => i = 0 || i = 14) none_ plant)
    let d := took .loadCompletion (boots (fun i => i = 0 || i = 1) none_ plant)
    (levelTrigger a 3 = false ∧ handedState a (.door 3) = false) ∧ (levelTrigger b 3 = false ∧ handedState b (.door 3) = true) ∧
    (levelTrigger c 3 = true ∧ handedState c (.door 3) = true) ∧
    (levelTrigger d 3 = true ∧ handedState d (.door 3) = false ∧ doorLevel d 3 = .fire ∧ (d.doorEntry 3).interlock = some 1 ∧
      (d.trunkEntry 1).enabled = true ∧ (d.trunk 1).fanQuiet = false) ∧
    (levelTrigger d 4 = true ∧ handedState d (.door 4) = false ∧ (d.doorEntry 4).interlock = none) ∧
    (let f := boots (fun _ => false) (fun i => if i = 3 then some .openLoop else none) plant;
      (f.station 3).loop = some .openLoop ∧ (f.stationEntry 3).enabled = true ∧ (f.trunkEntry (f.stationEntry 3).pos.trunk).enabled = true ∧
      f.cfs.strap = false) ∧
    (let f := took .loadCompletion (boots (fun i => i = 3) none_ plant);
      handedState f .flow = true ∧ f.spa.unexpExpiry = some (f.time + BitVec.ofNat 32 (f.supplyEntry.unexpTime * 1000))) ∧
    handedState a .flow = false ∧
    State.reset.cfs.loadInvalid = true ∧ State.reset.rpq.queue = [] := by decide +kernel

/-- Input `i` raw at `high` with its debounce of 20 ms just run out. -/
def handing (i : Fin 32) (high : Bool) (s : State) : State :=
  s.setInput i { raw := high, debounced := !high, differs := some 9980, latch := false, active := !high }

theorem handing_HandsOver (i : Fin 32) (r : Role) (high : Bool) (s : State)
    (due : reached s.time (9980 + BitVec.ofNat 32 (s.inputEntry i).debounce) = true) (role : (s.inputEntry i).role = r)
    (lowest : ∀ j, j < i → (s.inputEntry j).role ≠ r) (sense : (s.inputEntry i).sense = .activeHigh) :
    HandsOver (handing i high s) i r high := by
  have e : (handing i high s).inputEntry i = s.inputEntry i := rfl
  have x : (handing i high s).input i = { raw := high, debounced := !high, differs := some 9980, latch := false, active := !high } := by
    simp [handing, State.setInput, State.input]
  refine ⟨⟨9980, by rw [x], by rw [e]; exact due⟩, by rw [e]; exact role, lowest, ?_, by rw [x]; cases high <;> decide⟩
  simp only [debouncedInput, e, x, sense]
  cases high <;> decide

/-- The FAN input ends while the stop timer runs and door 3 waits for the fan. -/
theorem witness_FanStopTimeoutReleasesDoors_input :
    let s := handing 1 false ((running.setTrunk 1 { running.trunk 1 with fanStop := some 10500 }).setDoor 3
      { st := .waitFan .level, holder := true, contact := false })
    HandsOver s 1 (.fan 1) false ∧ ((s.trunk 1).fanIn = true ∧ (s.trunk 1).fanStop = some 10500 ∧ (s.door 3).st.phase = .waitFan) :=
  ⟨handing_HandsOver _ _ _ _ (by decide +kernel) (by decide +kernel) (by decide +kernel) (by decide +kernel), by decide +kernel⟩

/-- The FAN input of a halted trunk begins. -/
theorem witness_DebouncedInputs_fan : HandsOver (handing 1 true resting) 1 (.fan 1) true ∧ ((handing 1 true resting).trunk 1).fanIn = false :=
  ⟨handing_HandsOver _ _ _ _ (by decide +kernel) (by decide +kernel) (by decide +kernel) (by decide +kernel), by decide +kernel⟩

/-- Flow begins under SUPPLY_FAULT, and stops under FLOW_UNEXPECTED. -/
theorem witness_FlowTimers_input :
    let a := handing 3 true { running with spa := { running.spa with supplyFault := true } }
    let b := handing 3 false { running with spa := { running.spa with flow := true, unexpRaised := true } }
    (HandsOver a 3 .flow true ∧ a.spa.flow = false ∧ a.spa.supplyFault = true) ∧
    (HandsOver b 3 .flow false ∧ b.spa.flow = true ∧ b.spa.unexpRaised = true) ∧ running.spa.supplyFault = false ∧ running.spa.unexpRaised = false :=
  ⟨⟨handing_HandsOver _ _ _ _ (by decide +kernel) (by decide +kernel) (by decide +kernel) (by decide +kernel), by decide +kernel⟩,
    ⟨handing_HandsOver _ _ _ _ (by decide +kernel) (by decide +kernel) (by decide +kernel) (by decide +kernel), by decide +kernel⟩,
    by decide +kernel⟩

/-- The contact of door 3 closes in each state, and opens in READY. -/
theorem witness_DoorTimers_contact (st : DoorState) (closed : Bool) :
    let s := handing 14 closed (running.setDoor 3 { st := st, holder := true, contact := !closed })
    HandsOver s 14 (.door 3) closed ∧ (s.door 3).contact ≠ closed ∧ (s.door 3).st = st :=
  ⟨handing_HandsOver _ _ _ _ (show reached running.time (9980 + BitVec.ofNat 32 (running.inputEntry 14).debounce) = true by decide +kernel)
      (show (running.inputEntry 14).role = .door 3 by decide +kernel)
      (show ∀ j : Fin 32, j < 14 → (running.inputEntry j).role ≠ .door 3 by decide +kernel)
      (show (running.inputEntry 14).sense = .activeHigh by decide +kernel),
    by cases closed <;> exact Bool.noConfusion, rfl⟩

/-- The keyswitch leaves MAINTAIN in CONFIGURE, with tables that pass and that do not, and in ARMED. -/
theorem witness_ConfigureLeft_key :
    let turning (s : State) : State := handing 2 false { s with cfs := { s.cfs with key := true } }
    (HandsOver (turning configuring) 2 .key false ∧ (turning configuring).cfs.key ≠ false ∧ (turning configuring).cfs.mode = .configure ∧
      (turning configuring).dfe.released = true) ∧
    HandsOver (turning running) 2 .key false ∧ (turning running).cfs.mode ≠ .configure ∧
    (allChecks (turning configuring)).all (fun c => c.passes) = true :=
  ⟨⟨handing_HandsOver _ _ _ _ (by decide +kernel) (by decide +kernel) (by decide +kernel) (by decide +kernel), by decide +kernel⟩,
    handing_HandsOver _ _ _ _ (by decide +kernel) (by decide +kernel) (by decide +kernel) (by decide +kernel), by decide +kernel⟩

/-- Every trunk in HALT, and zone 2 enabled. -/
theorem witness_AcknowledgedZones_all : (∀ k, ∃ c, (resting.trunk k).prot = .halt c) ∧ (resting.zoneEntry 2).enabled = true ∧
    (resting.zoneEntry 1).enabled = false := by
  refine ⟨fun k => ?_, by decide +kernel, by decide +kernel⟩
  match k with
  | 0 => exact ⟨.start, by decide +kernel⟩
  | 1 => exact ⟨.manual, by decide +kernel⟩
  | 2 => exact ⟨.start, by decide +kernel⟩
  | 3 => exact ⟨.start, by decide +kernel⟩

/-- Zone 2 alarmed: siren 2 wants pattern 2 from OFF, from a wait, from a step and from a test; with the zone quiet it
wants none; a slot in use 1 ms before the gap's end; a changed and a disabling entry; a pattern a siren names. -/
theorem witness_SelectedLevelAndWantedPattern_states :
    let fire := running.setZone 2 { Zone.reset with latched := .fire }
    let at_ (st : SirenState) (w : Option (Fin 8)) (s : State) : State := s.setSiren 2 { Siren.reset with st := st, wanted := w }
    wantedPattern fire 2 = some 2 ∧ wantedPattern running 2 = none ∧ ((fire.siren 2).st = .off ∧ (fire.siren 2).wanted = none) ∧
    ((at_ (.sounding 1 0 true 10500 none false) (some 1) fire).siren 2).wanted ≠ some 2 ∧
    ((at_ (.startWait none) (some 1) running).siren 2).wanted ≠ none ∧ wantedPattern (at_ (.startWait none) (some 1) running) 2 = none ∧
    ((at_ (.startWait (some { pattern := 1, duration := 1000 })) none fire).siren 2).st = .startWait (some { pattern := 1, duration := 1000 }) ∧
    ((at_ (.test 1 0 true (some 10100) 10500 false) none fire).siren 2).st = .test 1 0 true (some 10100) 10500 false ∧
    fire.srs.lastStart = none ∧ reached fire.time (Machine.after 9501 fire.globalEntry.startGap) = false ∧
    (∀ j, j ≠ 2 → (fire.siren j).st.phase ≠ .startWait) ∧
    ((fire.sirenEntry 2).firePattern = some 2 ∧ (fire.sirenEntry 0).firePattern ≠ some 2) ∧
    ({ plant.siren[(2 : Fin 8)] with partner := some 5 } ≠ fire.sirenEntry 2 ∧ (fire.sirenEntry 2).enabled = true) := by decide +kernel

/-- Door 3 asked by its level with and without a delay, at FIRE, and with its trigger ended; its entry with another
delay, close time and interlock, exactly due and 1 ms short. -/
theorem witness_DoorTimers_triggers :
    let alert := running.setZone 2 { Zone.reset with latched := .alert }
    let fire := running.setZone 2 { Zone.reset with latched := .fire }
    let e := running.doorEntry 3
    (levelTrigger alert 3 = true ∧ (alert.door 3).st = .held ∧ 0 < e.delay ∧ doorLevel alert 3 ≠ .fire) ∧
    (levelTrigger fire 3 = true ∧ doorLevel fire 3 = .fire) ∧ levelTrigger running 3 = false ∧
    (e.enabled = true ∧ e.zoneA = 2 ∧ e.zoneB = some 4) ∧ (e.zoneA ≠ 9 ∧ e.zoneB ≠ some 9) ∧
    (e.delay = 20 ∧ reached running.time ((5000 : Time) + BitVec.ofNat 32 (5 * 1000)) = true ∧
      reached running.time ((5001 : Time) + BitVec.ofNat 32 (5 * 1000)) = false ∧ 0 < e.closeTimeout ∧ e.closeTimeout ≤ 60) ∧
    e.level.rank ≤ Level.alert.rank ∧ (e.interlock = some 1 ∧ (running.trunk 1).fanQuiet = false ∧ (resting.trunk 1).fanQuiet = true) ∧
    (running.doorEntry 0).enabled = false ∧ (running.door 0).contact = false ∧
    ((running.setDoor 0 { st := .disabled, holder := false, contact := true }).door 0).contact = true := by decide +kernel

/-- Each door asked for by "all": READY, waiting, held under a running and under a quiet fan, and disabled. -/
theorem witness_DoorRequestsForAll_states :
    ((running.setDoor 3 { st := .ready, holder := true, contact := true }).door 3).st = .ready ∧
    ((running.setDoor 3 { st := .waitFan .level, holder := true, contact := false }).door 3).st = .waitFan .level ∧
    ((running.door 3).st = .held ∧ (running.doorEntry 3).interlock = some 1 ∧ (running.trunkEntry 1).enabled = true ∧
      (running.trunk 1).fanQuiet = false ∧ (resting.trunk 1).fanQuiet = true) ∧
    (running.doorEntry 4).interlock = none ∧ (running.doorEntry 0).enabled = false := by decide +kernel

/-- Sirens 2 and 5 as partners of each other: siren 2 driven as its test ends, siren 5 calling. -/
def paired : State :=
  let x := plant
  let s := running.setTables { x with siren :=
    (x.siren.set 2 { x.siren[(2 : Fin 8)] with partner := some 5 }).set 5 { x.siren[(5 : Fin 8)] with partner := some 2 } }
  (s.setSiren 2 { Siren.reset with st := .test 1 0 true (some 10100) 10000 false, output := true }).setSiren 5
    { Siren.reset with st := .sounding 1 0 true 10500 none false, wanted := some 1 }

theorem witness_SirenTestsBeginAndEnd_partners :
    Mutual paired 2 5 ∧ ((paired.siren 2).output = true ∧ (paired.siren 5).output = false ∧ (paired.siren 5).calls = true) ∧
    partnerOf running 2 = none ∧ (∀ j, partnerOf running j ≠ some 2) ∧ reached paired.time 10000 = true :=
  ⟨⟨by decide +kernel, by decide +kernel, by decide +kernel⟩, by decide +kernel⟩

/-- A TRUNK entry that stays enabled with each time and velocity changed, on a hold, in the fallback and in HALT; a
STATION, ZONE, INPUT and GLOBAL write in the states their clauses name. -/
theorem witness_OwnersActOnTakenEntries_kept :
    let e := running.trunkEntry 1
    (e.enabled = true ∧ e.velHold = 5 ∧ e.fallback = 1500 ∧ e.vStall = 800 ∧ e.slotLen = 1000 ∧ e.fanStopTimeout = 60) ∧
    (let s := running.setAir 1 { TrunkAir.reset with vf := 2350, stalled := false, stage := .hold, faultStart := some 7000, holdExpiry := some 12000 };
      (s.air 1).stage = .hold ∧ (s.air 1).faultStart = some 7000 ∧ reached s.time ((7000 : Time) + BitVec.ofNat 32 (3 * 1000)) = true ∧
      reached s.time ((7000 : Time) + BitVec.ofNat 32 (4 * 1000)) = false) ∧
    ((running.setAir 1 { TrunkAir.reset with vf := 1500, stalled := false, stage := .fallback }).air 1).stage = .fallback ∧
    ((resting.trunk 1).prot = .halt .manual ∧ (resting.trunk 1).fanStop = none) ∧
    (let s := resting.setTrunk 1 { resting.trunk 1 with fanStop := some 60000, haltEntry := 0 };
      (s.trunk 1).fanStop ≠ none ∧ reached s.time ((0 : Time) + BitVec.ofNat 32 (10 * 1000)) = true ∧
      reached s.time ((0 : Time) + BitVec.ofNat 32 (11 * 1000)) = false) ∧
    (reached resting.time ((resting.trunk 1).slotStart + BitVec.ofNat 32 500) = true ∧
      reached (400 : Time) ((resting.trunk 1).slotStart + BitVec.ofNat 32 500) = false) ∧
    ((running.station 3).scan = .cont ∧ (running.station 3).standing = false ∧ (running.stationEntry 3).enabled = true ∧
      (running.trunkEntry 1).enabled = true ∧ running.dfe.released = true ∧ (running.station 3).run = none) ∧
    ((running.station 0).scan = .off ∧ (running.station 0).loop = none) ∧
    ((running.zoneEntry 1).enabled = false ∧ (running.zoneEntry 2).enabled = true) ∧
    ((running.inputEntry 0).role = .call 2 ∧ (running.inputEntry 0).debounce ≠ 10 ∧
      ((running.setInput 0 { Input.reset with raw := true, differs := some 9990 }).input 0).differs = some 9990 ∧
      reached running.time ((9990 : Time) + BitVec.ofNat 32 10) = true ∧ reached running.time ((9991 : Time) + BitVec.ofNat 32 10) = false) ∧
    (running.globalEntry.startGap ≠ 400 ∧ (∀ i, (running.siren i).st.phase ≠ .startWait)) := by decide +kernel

/-- Trunk 1 stalls under a valve scheduled alone that fits, and under one that does not; a second valve of a higher
class and of a lower index would stand before it. -/
theorem witness_AirflowReadings_rise :
    let s := (running.setAir 1 { TrunkAir.reset with vf := 800, stalled := false }).setValve 2 { st := .scheduled (sch 10500 11000), output := false }
    (s.air 1).stalled = false ∧ ((800 : Int) + (((0 : Nat) : Int) - 800 + 4) / 8).toNat < (s.trunkEntry 1).vStall ∧
    (s.valve 2).st = .scheduled (sch 10500 11000) ∧ (s.valveEntry 2).pos.trunk = 1 ∧
    (∀ w, w ≠ 2 → (s.valve w).st = .idle) ∧
    ((s.setValve 2 { st := .waiting (sch 9000 11000) 9000, output := false }).valve 2).st = .waiting (sch 9000 11000) 9000 := by decide +kernel

theorem witness_AirflowReadings_fits : Fits running 0 0 2 ∧ Fits running 2 2 2 ∧ ¬ Fits running 5 4 2 ∧ ¬ Fits running 3 3 2 := by
  unfold Fits
  decide +kernel

/-- A run in a window now over, standing. -/
theorem witness_DutyWindows_standing :
    let r : Machine.Run := { detected := 8000, peak := 1420, track := some 17 }
    let s := resting.setStation 3 { Station.reset with scan := .duty 9980 true 10980, run := some r, standing := true }
    (s.station 3).run = some r ∧ (s.station 3).standing = true ∧ (s.station 3).scan = .duty 9980 true 10980 ∧
    reached s.time ((9980 : Time) + 20) = true ∧ reached s.time ((9981 : Time) + 20) = false := by decide +kernel

/-- The track that awaits S5 finds no station below it, and waits for its spray, or does not; S3 has S5 below it, and
the window there has passed or holds. -/
theorem witness_LoopSupervision_tracks :
    ((tracked 10500).trc.tracks = [spark 10500] ∧ (spark 10500).next = some { station := 5, early := 9415, late := 10500 }) ∧
    nextStation (tracked 10500) 5 = none ∧ (spark 10500).outcome = .opened ∧ (spark 10500).sprayClosed = false ∧
    ({ spark 10500 with sprayClosed := true }).sprayClosed = true ∧ nextStation (tracked 10500) 3 = some 5 ∧
    later running.time (arrivalWindow running 3 9000 5).late = true ∧ later running.time (arrivalWindow running 3 9900 5).late = false := by
  decide +kernel

/-- A notice of V2 and of another valve to a track with a next station and without one; S5 with neither a valve nor a
next station, at the inlet or not; a wait past its close time and an open spray at it with no valve waiting. -/
theorem witness_WindowPass_notices :
    let found (k : Track) (s : State) : Option Track := s.trc.tracks.find? (fun q => decide (q.id = k.id))
    let bare : Track := { spark 10500 with next := none }
    let s := { running with trc := { tracks := [bare], idCounter := 18 } }
    found (spark 10500) (tracked 10500) = some (spark 10500) ∧ (spark 10500).valve = some 2 ∧ (spark 10500).valve ≠ some 3 ∧
    found bare s = some bare ∧ bare.next = none ∧ bare.outcome = .opened ∧ isInlet running 5 = false ∧
    (requestedValve running 5 = none ∧ nextStation running 5 = none ∧ (running.station 5).scan = .cont ∧ (running.station 5).run = none ∧
      (running.stationEntry 5).threshold ≤ (1000 : BitVec 12).toNat ∧ running.trc.tracks.length < 32 ∧
      running.trc.tracks = []) := by decide +kernel

/-- Two waiting valves of the plant after a close: V2 alone can be granted, and V2 stands before V3. -/
def waiters : State :=
  let x := plant
  let s := running.setTables { x with valve := x.valve.set 3 x.valve[(2 : Fin 12)] }
  let s := (s.setValve 2 { st := .waiting (sch 9000 10500) 9000, output := false }).setValve 3
    { st := .waiting (sch 9500 10500) 9500, output := false }
  ({ s with spa := { s.spa with units := 2, nonFilter := 2 } }).setValve 4 { st := .spraying (sch 9000 10000) 9000 false .branch, output := true }

theorem witness_SprayTimes_grants :
    (waiters.valve 2).st = .waiting (sch 9000 10500) 9000 ∧ (waiters.valve 4).st = .spraying (sch 9000 10000) 9000 false .branch ∧
    Fits waiters 0 0 2 ∧ waiters.spa.units - (waiters.valveEntry 4).demand ≤ 2 ∧ later (sch 9000 10500).closeTime waiters.time = true ∧ StandsBefore waiters 2 3 ∧ ¬ Fits waiters 5 4 2 := by
  refine ⟨by decide +kernel, by decide +kernel, ?_, by decide +kernel, by decide +kernel, ?_, ?_⟩
  · unfold Fits; decide +kernel
  · intro x a y b hx hy
    obtain ⟨rfl, rfl⟩ : sch 9000 10500 = x ∧ (9000 : Time) = a :=
      ValveState.waiting.inj ((show ValveState.waiting (sch 9000 10500) 9000 = (waiters.valve 2).st by decide +kernel).trans hx)
    obtain ⟨rfl, rfl⟩ : sch 9500 10500 = y ∧ (9500 : Time) = b :=
      ValveState.waiting.inj ((show ValveState.waiting (sch 9500 10500) 9500 = (waiters.valve 3).st by decide +kernel).trans hy)
    exact Or.inr ⟨by decide +kernel, Or.inl (by decide +kernel)⟩
  · unfold Fits; decide +kernel

/-- V2 closes with flow: the units fall to 0 with no valve waiting, stay at 0 and rise from 0 by the scan, or stay
above 0; at its open time the units rise from 0 and do not; the tagged request is in its schedule. -/
theorem witness_SprayTimes_supply :
    let flowing (n : Nat) (x : ValveState) : State :=
      ({ running with spa := { running.spa with flow := true, units := n, nonFilter := n } }).setValve 2 { st := x, output := true }
    let open_ : ValveState := .spraying (sch 9000 10000) 9000 false .branch
    let queued (s : State) : State :=
      let s := s.setTables { plant with valve := plant.valve.set 3 plant.valve[(2 : Fin 12)] }
      s.setValve 3 { st := .waiting (sch 9500 10500) 9500, output := false }
    let request : TaggedRequest :=
      { track := 17, trunk := 1, station := 3, valve := 2, detected := 9000, transit := 319, early := 271, openTime := 9000, lateStart := false, merged := false }
    ((flowing 2 open_).spa.units - ((flowing 2 open_).valveEntry 2).demand = 0 ∧ (took (.valveClose 2) (flowing 2 open_)).spa.units = 0) ∧
    ((queued (flowing 2 open_)).spa.units - ((queued (flowing 2 open_)).valveEntry 2).demand = 0 ∧
      (took (.valveClose 2) (queued (flowing 2 open_))).spa.units = 2) ∧
    (took (.valveClose 2) (flowing 4 open_)).spa.units = 2 ∧
    (took (.openTimeReached 2) (flowing 0 (.scheduled (sch 10000 10600)))).spa.proveExpiry =
      some (10000 + BitVec.ofNat 32 running.supplyEntry.proveTime) ∧
    (took (.openTimeReached 2) (flowing 2 (.scheduled (sch 10000 10600)))).spa.proveExpiry = none ∧
    (took (.testSprayEnd 2) (flowing 2 (.test 10000 true))).spa.units = 0 ∧
    (let s := { flowing 2 open_ with spa := { (flowing 2 open_).spa with sampler := .tagged request none } };
      s.spa.sampler = .tagged request none ∧ request.valve = 2 ∧ request.valve ≠ 3) := by decide +kernel

/-- V2 in each state a request may find it in. -/
theorem witness_Transits_requests :
    (running.valve 2).st = .idle ∧ (waiters.valve 2).st = .waiting (sch 9000 10500) 9000 ∧
    ((running.setValve 2 { st := .scheduled (sch 10500 11000), output := false }).valve 2).st = .scheduled (sch 10500 11000) ∧
    (waiters.valve 4).st = .spraying (sch 9000 10000) 9000 false .branch ∧
    ((running.setValve 2 { st := .test 10500 false, output := true }).valve 2).st = .test 10500 false ∧
    (later 10500 running.time = true ∧ later 10000 running.time = false) := by decide +kernel

/-- Every receiver of the part at reset and in START holds its input's state. -/
theorem witness_HandedOk : HandedOk booting ∧ ∃ t, step booting = .next t :=
  ⟨{ flow := by decide +kernel, fans := by decide +kernel, gates := by decide +kernel, contacts := by decide +kernel, key := by decide +kernel
     formed := fun h => absurd rfl h, start := fun _ => witness_LoadCompletionTakesStartingValues.2.1 }, _, rfl⟩

end Sys2Proof.Tests
end

section
/-! PROOFS. The downstream relation of chapter 1 (R8): the model's decision `downstream` is the relation
`Tables.Below` on the working tables, and that relation is strict and transitive. -/

namespace Sys2Proof.Proofs

open Sys2Proof Sys2Proof.Machine

/-- The third condition of R8 as the model decides it: a point on a branch needs the other on the same branch; a point on the
trunk may also stand at or before the junction of the other's branch. -/
theorem downstream_iff_below (s : State) (p q : Position) : downstream s p q = true ↔ s.cfs.tables.Below p q := by
  have junction (b : Fin 16) : (s.cfs.tables.branch[b]).junction = (s.branchEntry b).junction := rfl
  simp only [downstream, Tables.Below, junction]
  cases hp : p.branch with
  | some a => simp [and_assoc]
  | none =>
    cases hq : q.branch with
    | none => simp
    | some b => simp [and_assoc]

/-- Distance falls strictly along the relation, so no point is below itself. -/
theorem below_irrefl (x : Tables) (p : Position) : ¬ x.Below p p :=
  fun ⟨_, hdist, _⟩ => Nat.lt_irrefl _ hdist

/-- Trunks and distances chain. Of the two steps at most one leaves a branch for the trunk, since from the trunk there is no
branch left to leave; the other keeps the branch. -/
theorem below_trans {x : Tables} {p q r : Position} (hpq : x.Below p q) (hqr : x.Below q r) : x.Below p r := by
  obtain ⟨trunk_pq, dist_pq, branch_pq⟩ := hpq
  obtain ⟨trunk_qr, dist_qr, branch_qr⟩ := hqr
  refine ⟨trunk_pq.trans trunk_qr, dist_pq.trans dist_qr, ?_⟩
  rcases branch_pq with same_pq | ⟨p_trunk, b, q_branch, p_junction⟩
  · rcases branch_qr with same_qr | ⟨q_trunk, b, r_branch, q_junction⟩
    · exact .inl (same_pq.trans same_qr)
    · exact .inr ⟨same_pq.trans q_trunk, b, r_branch, dist_pq.le.trans q_junction⟩
  · rcases branch_qr with same_qr | ⟨q_trunk, _⟩
    · exact .inr ⟨p_trunk, b, same_qr ▸ q_branch, p_junction⟩
    · exact absurd (q_trunk.symm.trans q_branch) (Option.some_ne_none b).symm

/-- Settles O53, by carrying the three parts over from `Tables.Below`. -/
theorem downstreamRelation : Obligations.DownstreamRelation := by
  intro s p q r
  refine ⟨downstream_iff_below s p q, ?_, ?_⟩
  · exact Bool.eq_false_iff.mpr fun h => below_irrefl _ p ((downstream_iff_below s p p).mp h)
  · intro hpq hqr
    rw [downstream_iff_below] at hpq hqr ⊢
    exact below_trans hpq hqr

end Sys2Proof.Proofs
end

section
/-! PROOFS. The truth of a trip entry (R102): one law for each kind, and the case split over the kinds. -/

namespace Sys2Proof.Proofs

open Sys2Proof Sys2Proof.Machine

/-- The list of the 16 indices leaves none out, so a search of it is an existence. -/
@[simp] theorem mem_all16 (i : Fin 16) : i ∈ all16 := by
  revert i
  decide

theorem standingOnTrunk_iff (s : State) (t : Fin 4) :
    standingOnTrunk s t = true ↔ ∃ i, (s.station i).standing = true ∧ stationTrunk s i = t := by
  simp [standingOnTrunk]

theorem releasesMachines_iff (p : Prot) : p.releasesMachines = true ↔ p = .run ∨ p = .watch ∨ p = .divert := by
  cases p <;> simp [Prot.releasesMachines]

section kinds

variable {s : State} {t : Fin 4} {slot : Fin 6}

theorem tripTrue_of_none (hk : (s.tripEntry t slot).kind = .none) : tripTrue s t slot = false := by
  simp [tripTrue, hk]

theorem tripTrue_of_tracksAtLeast (hk : (s.tripEntry t slot).kind = .tracksAtLeast) :
    tripTrue s t slot = true ↔ (s.tripEntry t slot).threshold ≤ (s.trunk t).newRing.toList.sum := by
  simp [tripTrue, hk, ringCount]

theorem tripTrue_of_missedAtLeast (hk : (s.tripEntry t slot).kind = .missedAtLeast) :
    tripTrue s t slot = true ↔ (s.tripEntry t slot).threshold ≤ (s.trunk t).missedRing.toList.sum := by
  simp [tripTrue, hk, ringCount]

theorem tripTrue_of_survivor (hk : (s.tripEntry t slot).kind = .survivor) :
    tripTrue s t slot = true ↔ (s.trunk t).survivor = true := by
  simp [tripTrue, hk]

theorem tripTrue_of_standingLight (hk : (s.tripEntry t slot).kind = .standingLight) :
    tripTrue s t slot = true ↔ ∃ i, (s.station i).standing = true ∧ stationTrunk s i = t := by
  simp [tripTrue, hk, standingOnTrunk_iff]

theorem tripTrue_of_velocityBelow (hk : (s.tripEntry t slot).kind = .velocityBelow) :
    tripTrue s t slot = true ↔
      ((s.trunk t).prot = .run ∨ (s.trunk t).prot = .watch ∨ (s.trunk t).prot = .divert) ∧
        (s.air t).vf < (s.tripEntry t slot).threshold := by
  simp [tripTrue, hk, releasesMachines_iff]

theorem tripTrue_of_filterZoneAtLeast (hk : (s.tripEntry t slot).kind = .filterZoneAtLeast) :
    tripTrue s t slot = true ↔
      (s.tripEntry t slot).threshold ≤ (s.zone (s.trunkEntry t).filterZone).current.rank := by
  simp [tripTrue, hk]

/-- The hall zones of a trunk are those of its enabled branches (R6); with threshold 0 none is needed. -/
theorem tripTrue_of_hallZoneAtLeast (hk : (s.tripEntry t slot).kind = .hallZoneAtLeast) :
    tripTrue s t slot = true ↔
      (s.tripEntry t slot).threshold = 0 ∨ ∃ b, (s.branchEntry b).enabled = true ∧ (s.branchEntry b).trunk = t ∧
        (s.tripEntry t slot).threshold ≤ (s.zone (s.branchEntry b).hallZone).current.rank := by
  simp [tripTrue, hk, and_assoc]

end kinds

/-- Settles O23: the kind of the entry picks one disjunct, and the law of that kind is the disjunct. -/
theorem tripEntryTruth : Obligations.TripEntryTruth := by
  intro s t slot
  cases hk : (s.tripEntry t slot).kind with
  | none => simp [hk, tripTrue_of_none hk]
  | tracksAtLeast => simp [hk, tripTrue_of_tracksAtLeast hk]
  | missedAtLeast => simp [hk, tripTrue_of_missedAtLeast hk]
  | survivor => simp [hk, tripTrue_of_survivor hk]
  | standingLight => simp [hk, tripTrue_of_standingLight hk, stationTrunk]
  | velocityBelow => simp [hk, tripTrue_of_velocityBelow hk]
  | filterZoneAtLeast => simp [hk, tripTrue_of_filterZoneAtLeast hk]
  | hallZoneAtLeast => simp [hk, tripTrue_of_hallZoneAtLeast hk]

end Sys2Proof.Proofs
end

section
/-! PROOFS. The frame check (R171): the byte-wise CRC of the model is the register run over the bits, most significant bit of
each byte first; it tells apart any two lists that differ in one byte; a request that carries another is dropped. -/

namespace Sys2Proof.Proofs

open Sys2Proof Sys2Proof.Machine

/-! ### One bit of the register -/

/-- What is XORed into the register shifts along with it, except its top bit, which enters as the message bit. -/
theorem crcShift_xor (r b : Byte) : crcShift (r ^^^ b) = crcBit r (b.getLsbD 7) ^^^ b <<< 1 := by
  have top : (r ^^^ b).msb = (r.getLsbD 7 != b.getLsbD 7) := by simp [BitVec.msb_eq_getLsbD_last]
  have shift : (r ^^^ b) <<< 1 = r <<< 1 ^^^ b <<< 1 := BitVec.shiftLeft_xor_distrib r b 1
  unfold crcShift crcBit
  rw [top, shift]
  split
  · ac_rfl
  · rfl

/-- The generator's constant term is 1, so the bit that leaves at the top is found again at the bottom. -/
theorem crcShift_getLsbD_zero (c : Byte) : (crcShift c).getLsbD 0 = c.msb := by
  unfold crcShift
  split <;> simp_all

theorem crcShift_injective : Function.Injective crcShift := by
  intro c d h
  have top : c.msb = d.msb := by rw [← crcShift_getLsbD_zero, ← crcShift_getLsbD_zero, h]
  have rest : c <<< 1 = d <<< 1 := by
    unfold crcShift at h
    rw [top] at h
    split at h
    · exact (BitVec.xor_left_inj _).mp h
    · exact h
  refine BitVec.eq_of_getElem_eq fun i hi => ?_
  by_cases last : i = 7
  · simpa [last, BitVec.msb_eq_getLsbD_last] using top
  · simpa [show i + 1 < 8 by omega] using congrArg (·.getLsbD (i + 1)) rest

/-! ### One byte of the register -/

/-- Bit after bit the byte leaves the register it was XORed into; after eight bits none of it is left. -/
theorem crcByte_eq_foldl_crcBit (c b : Byte) : crcByte c b = (bitsOf b).foldl crcBit c := by
  simp [crcByte, bitsOf, crcShift_xor]

theorem crcByte_eq_iterate (c b : Byte) : crcByte c b = crcShift^[8] (c ^^^ b) := rfl

theorem crcByte_eq_crcByte_iff {c d b e : Byte} : crcByte c b = crcByte d e ↔ c ^^^ b = d ^^^ e := by
  rw [crcByte_eq_iterate, crcByte_eq_iterate]
  exact (crcShift_injective.iterate 8).eq_iff

theorem crcByte_injective_byte (c : Byte) : Function.Injective (crcByte c) := fun _ _ h =>
  (BitVec.xor_right_inj c).mp (crcByte_eq_crcByte_iff.mp h)

theorem crcByte_injective_register (b : Byte) : Function.Injective (crcByte · b) := fun _ _ h =>
  (BitVec.xor_left_inj b).mp (crcByte_eq_crcByte_iff.mp h)

/-! ### The register over a list of bytes -/

theorem crc8_eq_crcOfBits (bytes : List Byte) : crc8 bytes = crcOfBits (bytes.flatMap bitsOf) := by
  have perByte : crcByte = fun c b => (bitsOf b).foldl crcBit c := funext₂ crcByte_eq_foldl_crcBit
  rw [crc8, crcOfBits, List.foldl_flatMap, perByte]

theorem foldl_crcByte_injective (bytes : List Byte) : Function.Injective (bytes.foldl crcByte) := by
  induction bytes with
  | nil => exact Function.injective_id
  | cons b bytes ih => exact ih.comp (crcByte_injective_register b)

/-- A change confined to one byte changes the check: the bytes before it lead to one register, and neither the byte nor those
after it bring two registers together. -/
theorem eq_of_crc8_eq {a b : List Byte} {x y : Byte} (h : crc8 (a ++ x :: b) = crc8 (a ++ y :: b)) : x = y := by
  simp only [crc8, List.foldl_append, List.foldl_cons] at h
  exact crcByte_injective_byte _ (foldl_crcByte_injective b h)

/-! ### The check in the receiver -/

theorem completeFrame_of_bad_crc {body : List Byte} {crc : Byte} {s : State} (free : s.lnk.tx = none)
    (bad : crc ≠ frameCrc body) :
    completeFrame body crc s = s := by
  simp [completeFrame, free, bad]

/-- The byte after the LEN bytes of BODY completes the frame (R172). -/
theorem receiveByte_of_full_body {s : State} {body : List Byte} {last : Time}
    (full : s.lnk.rx = .body body.length body last) (crc : Byte) :
    receiveByte crc s = completeFrame body crc (toHunt s) := by
  simp [receiveByte, full, storeByte]

/-- Settles O9, with the CRC of the model read as the bitwise one throughout. -/
theorem frameCheckIsTheBitwiseCrc : Obligations.FrameCheckIsTheBitwiseCrc := by
  refine ⟨fun body => crc8_eq_crcOfBits _, fun r => ?_, fun s body last crc full free bad => ?_, fun a b x y => eq_of_crc8_eq⟩
  · simp only [Reply.frame, crc8_eq_crcOfBits, List.cons_append, List.nil_append]
  · rw [← crc8_eq_crcOfBits] at bad
    calc exec (.characterReceived crc) s = .next (receiveByte crc s) := rfl
      _ = .next (completeFrame body crc (toHunt s)) := by rw [receiveByte_of_full_body full]
      _ = .next (toHunt s) := by rw [completeFrame_of_bad_crc (s := toHunt s) free bad]

end Sys2Proof.Proofs
end
